-- ==== Sys2Proof/Word.lean ====
section
/-! DEFINITION. The bit vectors of the block and their plainest arithmetic (00 section 0.5: byte, word). -/

namespace Sys2Proof

/-- A byte, 8 bits (00 section 0.5). -/
abbrev Byte := BitVec 8

/-- A word, 32 bits (00 section 0.5): an address, a data beat or a timebase value. -/
abbrev Word := BitVec 32

/-- The content bytes of a PUT, byte 0 sent first (R170). -/
abbrev Bytes (n : Nat) := Vector Byte n

end Sys2Proof
end

