-- ==== Sys2Proof/Syntax.lean ====
section
/-! DEFINITION. The commands of spec/opcode_table.json, one constructor a row, and the types of their operands. -/

namespace Sys2Proof

/-- The direction of a transfer (TABLE 2.1). -/
inductive Kind where
  | read
  | write
  deriving DecidableEq, Repr

/-- The status of a response (R23). -/
inductive RespStatus where
  | okay
  | error
  deriving DecidableEq, Repr

/-- A request as it stands on the upstream bus, before any check (R23, TABLE 2.1). `size` is the raw 2-bit code, so
that a code that names no size can be presented (R26); `beats` is the number of data transfers, 1-8 (assumption 18). -/
structure Request where
  kind    : Kind
  address : Word
  beats   : Nat
  size    : BitVec 2
  tag     : Fin 8
  data    : List Word
  deriving DecidableEq, Repr

/-- The source marker of a downstream request and of its response (R149). -/
inductive Marker where
  | forwarded
  | ring
  deriving DecidableEq, Repr

/-- A response arriving from memory (R149): marker, tag, status and the data words received, beat 0 first. -/
structure MemResponse where
  marker : Marker
  tag    : Fin 8
  status : RespStatus
  data   : List Word
  deriving DecidableEq, Repr

/-- The commands of the block, one constructor for each row of spec/opcode_table.json, in the table's order. -/
inductive Instr where
  /-- REQUEST: a request is presented (`some r`) or none is, and an IDLE Request Port reads the oldest presented. -/
  | request (r : Option Request)
  | losslessGatePass
  | respondingRecordPlaced (tag : Fin 8)
  | stopRecordReoffer
  | losslessStallTimeout (tag : Fin 8)
  /-- RESPONSE_DELIVERY: the ready response at place `n`, 0 the oldest, goes upstream. -/
  | responseDelivery (n : Nat)
  | memoryResponse (m : MemResponse)
  | portReturnToReady
  | tick
  | counterExpiry
  | holdTimeout (slot : Fin 2)
  | autonomousGap
  | pathReset
  | prstDeasserted
  | deviceReset
  | resetRelease
  | powerOn
  | truncatedFrame
  | frameEnd
  | unknownCommand (code : Byte)
  | status
  | getSession
  | getRing
  | getHold
  | getTimebase
  | getAlertmap
  | getTotals
  | getEntry (n : Byte)
  | getCounter (n : Fin 4)
  | getSlot (n : Fin 2)
  | getInflight (n : Fin 8)
  | getUnknownItem (code : Byte)
  | putSession (b : Bytes 4)
  | putRing (b : Bytes 13)
  | putHold (b : Bytes 5)
  | putTimebase (b : Bytes 1)
  | putAlertmap (b : Bytes 9)
  | putEntry (n : Fin 16) (b : Bytes 28)
  | putCounter (n : Fin 4) (b : Bytes 11)
  | putUnsupportedItem (code : Byte)
  | arm
  | stop
  | restart
  | clear
  | level (v : Byte)
  | enable (n : Byte)
  | disable (n : Byte)
  | readptr (v : Word)
  | mark (v : Word)
  | release (slot : Byte) (ticket : Byte) (disposition : Byte) (count : Byte) (words : List Word)
  | ack
  | done
  | frameStart
  | csDeassertedAfterReset
  deriving DecidableEq, Repr

end Sys2Proof
end

