-- ==== Sys2Proof/Decode.lean ====
section
/-! DEFINITION. From bytes to commands. The opcode table gives its rows no bits, so `decodeTableWord` spells none
(assumption 21). The frames of the Management Port do have bytes: `Frame.decode` reads the command that a frame's bytes
take (R166, R168, TABLE 11.1, TABLE 11.4), and `Frame.encode` writes them. -/

namespace Sys2Proof

/-- The word whose four bytes are sent `a` first, most significant byte first (R171). -/
def wordOfBytes (a b c d : Byte) : Word := a ++ b ++ c ++ d

/-- The four bytes of a word, most significant first (R171). -/
def bytesOfWord (w : Word) : List Byte :=
  [w.extractLsb' 24 8, w.extractLsb' 16 8, w.extractLsb' 8 8, w.extractLsb' 0 8]

/-- The `n` words that the bytes spell, if they spell exactly that many. -/
def wordsOfBytes : Nat → List Byte → Option (List Word)
  | 0, [] => some []
  | n + 1, a :: b :: c :: d :: rest => (wordsOfBytes n rest).map (wordOfBytes a b c d :: ·)
  | _, _ => none

/-- The content bytes of an item, if there are exactly `n` of them. -/
def exactBytes (n : Nat) (bs : List Byte) : Option (Bytes n) :=
  if h : bs.length = n then some ⟨bs.toArray, by simpa using h⟩ else none

/-- The items of TABLE 11.4. -/
inductive Item where
  | session
  | ring
  | hold
  | timebase
  | alertmap
  | totals
  | entry (n : Fin 16)
  | counter (n : Fin 4)
  | slot (n : Fin 2)
  | inflight (n : Fin 8)
  deriving DecidableEq, Repr

/-- The item that a code names (TABLE 11.4). -/
def itemOf (code : Byte) : Option Item :=
  let c := code.toNat
  if c = 0x00 then some .session
  else if c = 0x01 then some .ring
  else if c = 0x02 then some .hold
  else if c = 0x03 then some .timebase
  else if c = 0x04 then some .alertmap
  else if c = 0x05 then some .totals
  else if 0x10 ≤ c ∧ c ≤ 0x1F then some (.entry (Fin.ofNat 16 (c - 0x10)))
  else if 0x20 ≤ c ∧ c ≤ 0x23 then some (.counter (Fin.ofNat 4 (c - 0x20)))
  else if 0x30 ≤ c ∧ c ≤ 0x31 then some (.slot (Fin.ofNat 2 (c - 0x30)))
  else if 0x38 ≤ c ∧ c ≤ 0x3F then some (.inflight (Fin.ofNat 8 (c - 0x38)))
  else none

/-- The code of an item (TABLE 11.4). -/
def Item.code : Item → Byte
  | .session => 0x00#8
  | .ring => 0x01#8
  | .hold => 0x02#8
  | .timebase => 0x03#8
  | .alertmap => 0x04#8
  | .totals => 0x05#8
  | .entry n => BitVec.ofNat 8 (0x10 + n.val)
  | .counter n => BitVec.ofNat 8 (0x20 + n.val)
  | .slot n => BitVec.ofNat 8 (0x30 + n.val)
  | .inflight n => BitVec.ofNat 8 (0x38 + n.val)

/-- An item that GET reads and PUT does not write (R170: SLOT, INFLIGHT and TOTALS have no PUT form). -/
def Item.getOnly : Item → Bool
  | .totals | .slot _ | .inflight _ => true
  | .session | .ring | .hold | .timebase | .alertmap | .entry _ | .counter _ => false

/-- A command byte that names a command of TABLE 11.1. -/
def namesCommand (code : Byte) : Bool :=
  [0x00#8, 0x01#8, 0x02#8, 0x10#8, 0x11#8, 0x12#8, 0x13#8, 0x14#8, 0x20#8, 0x21#8, 0x22#8, 0x23#8, 0x30#8, 0x40#8,
    0x41#8].contains code

/-- The GET command of an item code (R168). -/
def getCommand (code : Byte) : Instr :=
  match itemOf code with
  | some .session => .getSession
  | some .ring => .getRing
  | some .hold => .getHold
  | some .timebase => .getTimebase
  | some .alertmap => .getAlertmap
  | some .totals => .getTotals
  | some (.entry n) => .getEntry (BitVec.ofNat 8 n.val)
  | some (.counter n) => .getCounter n
  | some (.slot n) => .getSlot n
  | some (.inflight n) => .getInflight n
  | none => .getUnknownItem code

/-- The PUT command taken with item code `code` and content bytes `bs`, if `bs` ends it (R168). -/
def putCommand (code : Byte) (bs : List Byte) : Option Instr :=
  match itemOf code with
  | some .session => (exactBytes 4 bs).map .putSession
  | some .ring => (exactBytes 13 bs).map .putRing
  | some .hold => (exactBytes 5 bs).map .putHold
  | some .timebase => (exactBytes 1 bs).map .putTimebase
  | some .alertmap => (exactBytes 9 bs).map .putAlertmap
  | some (.entry n) => (exactBytes 28 bs).map (.putEntry n)
  | some (.counter n) => (exactBytes 11 bs).map (.putCounter n)
  | some .totals | some (.slot _) | some (.inflight _) | none =>
    if bs = [] then some (.putUnsupportedItem code) else none

/-- The RELEASE taken with the argument bytes, if they end it (R168: a word count above 8 ends the arguments). -/
def releaseCommand : List Byte → Option Instr
  | slot :: ticket :: disposition :: count :: rest =>
    if 8 < count.toNat then (if rest = [] then some (.release slot ticket disposition count []) else none)
    else (wordsOfBytes count.toNat rest).map (.release slot ticket disposition count)
  | _ => none

/-- The command without arguments taken at its command byte. -/
def bareCommand (c : Instr) (args : List Byte) : Option Instr := if args = [] then some c else none

/-- The command with one argument byte. -/
def byteCommand (c : Byte → Instr) : List Byte → Option Instr
  | [v] => some (c v)
  | _ => none

/-- The command with one four-byte argument. -/
def wordCommand (c : Word → Instr) : List Byte → Option Instr
  | [a, b, d, e] => some (c (wordOfBytes a b d e))
  | _ => none

/-- The command that is taken when exactly these bytes of a frame have been received (R166, R168, TABLE 11.1); none
while its arguments are not complete, and none past its last argument byte. -/
def Frame.decode : List Byte → Option Instr
  | [] => none
  | code :: args =>
    if code = 0x00#8 then bareCommand .status args
    else if code = 0x01#8 then byteCommand getCommand args
    else if code = 0x02#8 then
      match args with
      | item :: bs => putCommand item bs
      | [] => none
    else if code = 0x10#8 then bareCommand .arm args
    else if code = 0x11#8 then bareCommand .stop args
    else if code = 0x12#8 then bareCommand .restart args
    else if code = 0x13#8 then bareCommand .clear args
    else if code = 0x14#8 then byteCommand .level args
    else if code = 0x20#8 then byteCommand .enable args
    else if code = 0x21#8 then byteCommand .disable args
    else if code = 0x22#8 then wordCommand .readptr args
    else if code = 0x23#8 then wordCommand .mark args
    else if code = 0x30#8 then releaseCommand args
    else if code = 0x40#8 then bareCommand .ack args
    else if code = 0x41#8 then bareCommand .done args
    else bareCommand (.unknownCommand code) args

/-- The frame of a PUT: command byte, item code, contents. -/
def putFrame (i : Item) {n : Nat} (b : Bytes n) : List Byte := 0x02#8 :: i.code :: b.toList

/-- The frame of a GET. -/
def getFrame (i : Item) : List Byte := [0x01#8, i.code]

/-- The bytes of a frame that takes the command, up to its last argument byte; none for a command that does not come
over the Management Port, and for operands that no frame spells. -/
def Frame.encode : Instr → Option (List Byte)
  | .status => some [0x00#8]
  | .getSession => some (getFrame .session)
  | .getRing => some (getFrame .ring)
  | .getHold => some (getFrame .hold)
  | .getTimebase => some (getFrame .timebase)
  | .getAlertmap => some (getFrame .alertmap)
  | .getTotals => some (getFrame .totals)
  | .getEntry n => if n.toNat ≤ 15 then some [0x01#8, 0x10#8 + n] else none
  | .getCounter n => some (getFrame (.counter n))
  | .getSlot n => some (getFrame (.slot n))
  | .getInflight n => some (getFrame (.inflight n))
  | .getUnknownItem code => if itemOf code = none then some [0x01#8, code] else none
  | .putSession b => some (putFrame .session b)
  | .putRing b => some (putFrame .ring b)
  | .putHold b => some (putFrame .hold b)
  | .putTimebase b => some (putFrame .timebase b)
  | .putAlertmap b => some (putFrame .alertmap b)
  | .putEntry n b => some (putFrame (.entry n) b)
  | .putCounter n b => some (putFrame (.counter n) b)
  | .putUnsupportedItem code =>
    match itemOf code with
    | none => some [0x02#8, code]
    | some i => if i.getOnly then some [0x02#8, code] else none
  | .arm => some [0x10#8]
  | .stop => some [0x11#8]
  | .restart => some [0x12#8]
  | .clear => some [0x13#8]
  | .level v => some [0x14#8, v]
  | .enable n => some [0x20#8, n]
  | .disable n => some [0x21#8, n]
  | .readptr v => some (0x22#8 :: bytesOfWord v)
  | .mark v => some (0x23#8 :: bytesOfWord v)
  | .release slot ticket disposition count words =>
    if (8 < count.toNat ∧ words = []) ∨ (count.toNat ≤ 8 ∧ words.length = count.toNat) then
      some (0x30#8 :: slot :: ticket :: disposition :: count :: words.flatMap bytesOfWord)
    else none
  | .ack => some [0x40#8]
  | .done => some [0x41#8]
  | .unknownCommand code => if namesCommand code then none else some [code]
  | .request _ | .losslessGatePass | .respondingRecordPlaced _ | .stopRecordReoffer | .losslessStallTimeout _
  | .responseDelivery _ | .memoryResponse _ | .portReturnToReady | .tick | .counterExpiry | .holdTimeout _
  | .autonomousGap | .pathReset | .prstDeasserted | .deviceReset | .resetRelease | .powerOn | .truncatedFrame
  | .frameEnd | .frameStart | .csDeassertedAfterReset => none

/-- The command that a word spells by the opcode table's bits. The table gives none of its rows any bits, so no word
spells one (assumption 21). -/
def decodeTableWord (_nbits _w : Nat) : Option Instr := none

end Sys2Proof
end

