-- ==== Sys2Proof/Config.lean ====
section
/-! DEFINITION. What the part fixes for good, and the one free value of the model. -/

namespace Sys2Proof.Config

/-- Capture Queue capacity in words (R120). -/
abbrev queueWords : Nat := 128

/-- Occupancy from which the Capture Queue is urgent (R130). -/
abbrev urgentWords : Nat := 96

/-- Causes an alert class list holds (R156). -/
abbrev classCauses : Nat := 4

/-- Where a cause's repeat count stops (R159). -/
abbrev repeatMax : Nat := 255

/-- Where the pass-over count stops (R154). -/
abbrev passOverMax : Nat := 16

/-- Where the elapsed field saturates (R110). -/
abbrev elapsedMax : Nat := 65535

/-- Ticks of one GAP period, 2^20 (R116). -/
abbrev gapPeriod : Nat := 1048576

/-- Age of the reference time at which the autonomous GAP falls due, 2^31 ticks (R117). -/
abbrev autoGapAge : Word := 0x80000000#32

/-- Periods an autonomous GAP carries (R117). -/
abbrev autoGapCount : Nat := 2048

/-- Words of a bundle's LOSS record and lazy GAP together: what a claim adds to the record (R126). -/
abbrev bundleExtra : Nat := 3

/-- FREE VALUE. Which slot is released first when one PUT HOLD times out both ("either slot first", R92): true for
slot 1. It has no body, so no proof can use a value of it. See assumption 9. -/
opaque slotOneFirst : Nat → Bool

end Sys2Proof.Config
end

