-- ==== Sys2Proof/Machine/State.lean ====
section
/-! DEFINITION. The state of the block, one structure for each block of TABLE 0.2, and its value after reset. -/

namespace Sys2Proof.Machine

/-! ### Small types of the fields -/

/-- The width of a single-beat transfer (TABLE 2.1). -/
inductive Size where
  | byte
  | half
  | word
  deriving DecidableEq, Repr

/-- The request kinds a watch entry can hit (TABLE 1.1). -/
inductive Direction where
  | read
  | write
  | either
  deriving DecidableEq, Repr

/-- How much data a record asks for, in the order NONE, FIRST, ALL (TABLE 1.1, R17). -/
inductive DataOption where
  | none
  | first
  | all
  deriving DecidableEq, Repr

/-- What an early hit asks to be done with the transaction (TABLE 1.1). -/
inductive Dispose where
  | none
  | hold
  | block
  deriving DecidableEq, Repr

/-- The data test of an entry (TABLE 1.1). -/
structure Pattern where
  compare : Word
  care    : Word
  deriving DecidableEq, Repr

/-- A watch entry (R1, TABLE 1.1). -/
structure Entry where
  enabled     : Bool
  direction   : Direction
  low         : Word
  high        : Word
  tags        : BitVec 8
  levels      : BitVec 4
  pattern     : Option Pattern
  capture     : Bool
  dataOption  : DataOption
  lossless    : Bool
  alert       : Option (Fin 4)
  dispose     : Dispose
  blockStatus : RespStatus
  stop        : Bool
  link        : Option (Fin 4)
  nextLevel   : Option (Fin 4)
  deriving DecidableEq, Repr

/-- The dispositions a record can carry (TABLE 6.3, TABLE 11.5). -/
inductive Disposition where
  | forwarded
  | blocked
  | relForward
  | relReplace
  | relFail
  | relAbsorb
  | relSupply
  | timeoutForward
  | timeoutFail
  | stopForward
  deriving DecidableEq, Repr

/-- What caused a level change (R57). -/
inductive LevelCause where
  | entry
  | counter
  | command
  deriving DecidableEq, Repr

/-- The stop reason with its index (TABLE 3.1). -/
inductive StopReason where
  | none
  | command
  | entry (n : Fin 16)
  | counter (n : Fin 4)
  | ringDone
  | fault
  deriving DecidableEq, Repr

/-! ### Capture records -/

/-- The fields of a HIT record (R106, TABLE 6.3). The data word count d is the length of `data`. -/
structure HitRecord where
  address         : Word
  hitSet          : BitVec 16
  tag             : Fin 8
  kind            : Kind
  size            : Size
  beats           : Nat
  level           : Fin 4
  disposition     : Disposition
  late            : Bool
  memError        : Bool
  holdRefused     : Bool
  losslessTimeout : Bool
  elapsed         : Nat
  data            : List Word
  deriving DecidableEq, Repr

/-- A record's kind and contents (TABLE 6.2). -/
inductive RecordBody where
  | start (time : Word) (level : Fin 4)
  | stop (time : Word) (reason : StopReason)
  | hit (h : HitRecord)
  | gap
  | loss (count : Word)
  | level (old new : Fin 4) (cause : LevelCause) (index : Nat)
  | expiry (n : Fin 4)
  | mark (value : Word)
  | wrap
  deriving DecidableEq, Repr

/-- A capture record: what it holds, its time-lost flag and its 20-bit time field (R104). -/
structure Record where
  body     : RecordBody
  timeLost : Bool
  time     : BitVec 20
  deriving DecidableEq, Repr

/-! ### The memory path: Request Port and In-flight Table -/

/-- The states of a row (R29). -/
inductive RowState where
  | empty
  | deciding
  | queued
  | issued
  | parked
  | responding
  | orphan
  deriving DecidableEq, Repr

/-- What a RESPONDING row holds beside its fields: the built record, the response's status and the time at which its
stall timer started (R127, R128). -/
structure ReadWait where
  record : HitRecord
  status : RespStatus
  since  : Word
  deriving DecidableEq, Repr

/-- A row of the In-flight Table (TABLE 2.2). Row n serves tag n. -/
structure Row where
  state        : RowState
  kind         : Kind
  address      : Word
  size         : Size
  beats        : Nat
  writeData    : List Word
  arrivalLevel : Fin 4
  takingTime   : Word
  early        : BitVec 16
  late         : BitVec 16
  hits         : BitVec 16
  option       : DataOption
  owed         : Bool
  lossless     : Bool
  notified     : BitVec 4
  carry        : Disposition
  holdRefused  : Bool
  readBuf      : List Word
  wait         : Option ReadWait
  deriving DecidableEq, Repr

/-- The EMPTY column of TABLE 2.2. -/
def Row.empty : Row :=
  { state := .empty, kind := .read, address := 0#32, size := .byte, beats := 1, writeData := [], arrivalLevel := 0,
    takingTime := 0#32, early := 0#16, late := 0#16, hits := 0#16, option := .none, owed := false, lossless := false,
    notified := 0#4, carry := .forwarded, holdRefused := false, readBuf := [], wait := none }

/-- What the early match decided to do with a transaction (R16). -/
inductive Verdict where
  | forward
  | block (status : RespStatus)
  | hold (entry : Fin 16)
  deriving DecidableEq, Repr

/-- The combined outcome of an early match that stays with the Request Port until the decision (R7, R16-R20): the
early hit set, the disposition, and the actions to hand on as formed at the match (assumption 12). -/
structure MatchOutcome where
  early   : BitVec 16
  verdict : Verdict
  alerts  : List (Fin 16 × Fin 4)
  level   : Option (Fin 16 × Fin 4)
  notices : BitVec 4
  stop    : Option (Fin 16)
  deriving DecidableEq, Repr

/-- The outcome of a request that is not matched, or is hit by no entry (R7). -/
def MatchOutcome.passThrough : MatchOutcome :=
  { early := 0#16, verdict := .forward, alerts := [], level := none, notices := 0#4, stop := none }

/-- The acceptance state of the Request Port (R31, TABLE 2.4), with what each wait holds. -/
inductive Acceptance where
  | idle
  | waitOrphan (r : Request)
  | waitConflict (r : Request)
  | waitLossless (tag : Fin 8) (since : Word) (outcome : MatchOutcome)
  deriving DecidableEq, Repr

/-- A response on the upstream bus (R23). -/
structure Response where
  status : RespStatus
  tag    : Fin 8
  data   : List Word
  deriving DecidableEq, Repr

/-- The Request Port: acceptance state, the requests presented and not yet read (oldest first), the responses that are
ready (oldest first), and the response last driven on the upstream response group (R31, R39). -/
structure RequestPort where
  acceptance : Acceptance
  presented  : List Request
  ready      : List Response
  upstream   : Option Response
  deriving DecidableEq, Repr

/-! ### Hold Unit -/

/-- A PARKED hold slot (TABLE 5.1). -/
structure Parked where
  tag       : Fin 8
  ticket    : Byte
  parkTime  : Word
  kind      : Kind
  address   : Word
  size      : Size
  beats     : Nat
  writeData : List Word
  deriving DecidableEq, Repr

/-- The Hold Unit (R82, R83, R92). A FREE slot is `none`: all its other fields are then 0 or absent (R82). -/
structure HoldUnit where
  slots       : Vector (Option Parked) 2
  ticket      : Byte
  limit       : BitVec 24
  timeoutFail : Bool
  holdClass   : Option (Fin 4)
  deriving DecidableEq, Repr

/-! ### Session Controller -/

/-- The session states (TABLE 3.1). -/
inductive Session where
  | off
  | watching
  | stopping
  | stopped
  | fault
  deriving DecidableEq, Repr

/-- The STOP record states (TABLE 3.1). -/
inductive StopRecord where
  | notDue
  | due
  | placed
  deriving DecidableEq, Repr

/-- The Session Controller (TABLE 3.1). -/
structure SessionController where
  session      : Session
  level        : Fin 4
  reason       : StopReason
  stopRecord   : StopRecord
  startLevel   : Fin 4
  levelRecords : Bool
  stallLimit   : BitVec 16
  deriving DecidableEq, Repr

/-! ### Timebase and Event Counters -/

/-- The prescale settings (R63). -/
inductive Prescale where
  | div1
  | div16
  | div256
  | div4096
  deriving DecidableEq, Repr

/-- The Timebase: tick count, prescale setting, phase in CLK cycles (R63). -/
structure Timebase where
  ticks    : Word
  prescale : Prescale
  phase    : Nat
  deriving DecidableEq, Repr

/-- What a counter counts (TABLE 4.2). -/
inductive CounterMode where
  | event
  | time
  deriving DecidableEq, Repr

/-- A counter's source (TABLE 4.2). -/
inductive CounterSource where
  | entries
  | cascade (k : Fin 4)
  deriving DecidableEq, Repr

/-- A counter's start (TABLE 4.2). -/
inductive CounterStart where
  | immediate
  | onHit
  deriving DecidableEq, Repr

/-- A counter's state (TABLE 4.2). -/
inductive CounterState where
  | idle
  | waitStart
  | counting
  deriving DecidableEq, Repr

/-- A counter's reload (TABLE 4.2). -/
inductive CounterReload where
  | reload
  | oneshot
  deriving DecidableEq, Repr

/-- An event counter (TABLE 4.2). `tickPending` is the model's own: the current tick's decrement of a value of 1, an
expiry that COUNTER_EXPIRY has yet to take (assumption 3). -/
structure Counter where
  mode        : CounterMode
  source      : CounterSource
  start       : CounterStart
  constant    : Nat
  pending     : Option Nat
  value       : Nat
  state       : CounterState
  reload      : CounterReload
  alert       : Option (Fin 4)
  nextLevel   : Option (Fin 4)
  stop        : Bool
  record      : Bool
  tickPending : Bool
  deriving DecidableEq, Repr

/-- The device-reset column of TABLE 4.2. -/
def Counter.initial : Counter :=
  { mode := .event, source := .entries, start := .immediate, constant := 65536, pending := none, value := 65536,
    state := .idle, reload := .reload, alert := none, nextLevel := none, stop := false, record := false,
    tickPending := false }

/-! ### Record Builder and Capture Queue -/

/-- The Record Builder (TABLE 6.1). -/
structure RecordBuilder where
  refTime      : Word
  timeLost     : Bool
  losslessSeen : Bool
  deriving DecidableEq, Repr

/-- The Capture Queue (TABLE 7.1); occupancy and urgent are formed from the records. -/
structure CaptureQueue where
  records     : List Record
  lossCount   : Word
  pendingLoss : Word
  claim       : Option Nat
  deriving DecidableEq, Repr

/-! ### Ring Writer, Memory Port and arbiter -/

/-- The ring modes (TABLE 8.1). -/
inductive RingMode where
  | loop
  | once
  deriving DecidableEq, Repr

/-- The writer states (TABLE 8.2). -/
inductive WriterState where
  | idle
  | waitSpace
  | writing
  | abandoning
  deriving DecidableEq, Repr

/-- A ring burst: its address and its 1, 2, 4 or 8 words (R141). -/
structure Burst where
  address : Word
  words   : List Word
  deriving DecidableEq, Repr

/-- A placement in progress: whether it is a WRAP word alone (R139), the bursts left to issue (R141), and where WRITE
stands once it is published (R143). -/
structure Placement where
  wrapAlone : Bool
  bursts    : List Burst
  newWrite  : Word
  deriving DecidableEq, Repr

/-- The Ring Writer (TABLE 8.1). Burst outstanding is yes when `outstanding` holds the burst. -/
structure RingWriter where
  base        : Word
  limit       : Word
  mode        : RingMode
  watermark   : Nat
  write       : Word
  read        : Word
  ringDone    : Bool
  armed       : Bool
  writer      : WriterState
  written     : Nat
  outstanding : Option Burst
  placement   : Option Placement
  deriving DecidableEq, Repr

/-- A request on the downstream bus (TABLE 9.1). -/
structure Downstream where
  marker  : Marker
  tag     : Fin 8
  kind    : Kind
  address : Word
  size    : Size
  beats   : Nat
  data    : List Word
  deriving DecidableEq, Repr

/-- The port state, READY or ISSUING a request (R149). -/
inductive PortState where
  | ready
  | issuing (d : Downstream)
  deriving DecidableEq, Repr

/-- The Memory Port and its arbiter (R149, R154). -/
structure Arbiter where
  port     : PortState
  passOver : Nat
  deriving DecidableEq, Repr

/-! ### Alert Unit -/

/-- The cause kinds (TABLE 10.1). -/
inductive CauseKind where
  | entryHit
  | parked
  | holdTimeout
  | expiry
  | ringFault
  | holdRefused
  | queueUrgent
  | lossBegin
  | losslessTimeout
  | ringHigh
  | ringDone
  | portError
  | pathReset
  | sessionStopped
  deriving DecidableEq, Repr

/-- A pending cause (R156). -/
structure Cause where
  kind  : CauseKind
  index : Nat
  count : Nat
  deriving DecidableEq, Repr

/-- An alert class record (R156); causes oldest first. -/
structure AlertClass where
  causes    : List Cause
  overflow  : Bool
  inService : Bool
  deriving DecidableEq, Repr

/-- The alert map (R156, TABLE 11.12). -/
structure AlertMap where
  holdRefused     : Option (Fin 4)
  queueUrgent     : Option (Fin 4)
  lossBegin       : Option (Fin 4)
  losslessTimeout : Option (Fin 4)
  ringHigh        : Option (Fin 4)
  ringDone        : Option (Fin 4)
  portError       : Option (Fin 4)
  pathReset       : Option (Fin 4)
  sessionStopped  : Option (Fin 4)
  deriving DecidableEq, Repr

/-- The Alert Unit (R156). -/
structure AlertUnit where
  classes : Vector AlertClass 4
  map     : AlertMap
  deriving DecidableEq, Repr

/-! ### Management Port and lines -/

/-- The frame states (R165). -/
inductive FrameState where
  | idle
  | receiving
  | answering
  deriving DecidableEq, Repr

/-- The Management Port (R165, R166): frame state, bytes received in the frame, and the status and result bytes that
SDO shifts out once a command is taken (empty: SDO reads FFh). -/
structure ManagementPort where
  frame     : FrameState
  byteCount : Nat
  answer    : List Byte
  deriving DecidableEq, Repr

/-- The input lines RESET, PRST and CS, true while asserted (TABLE 11.20). -/
structure Lines where
  reset : Bool
  prst  : Bool
  cs    : Bool
  deriving DecidableEq, Repr

/-! ### The state -/

/-- The whole state of the block: one field a block, and the queue of commands that wait, first in, first out. -/
structure State where
  rqp      : RequestPort
  rows     : Vector Row 8
  fq       : List (Fin 8)
  entries  : Vector Entry 16
  totals   : Vector Word 16
  hold     : HoldUnit
  sc       : SessionController
  tb       : Timebase
  counters : Vector Counter 4
  rbl      : RecordBuilder
  cq       : CaptureQueue
  rw       : RingWriter
  mpa      : Arbiter
  au       : AlertUnit
  mgp      : ManagementPort
  lines    : Lines
  choices  : Nat
  pending  : List Instr
  deriving DecidableEq, Repr

/-- The part never stops: every command has an effect in every state, so no step ends in a fault, and there is no
reason to name (the session state FAULT of R53 is a state like another). Nobody raises a Fault; that is safe. -/
inductive Fault where
  deriving DecidableEq, Repr

/-- Reasons to refuse a command. -/
inductive Refusal where
  /-- Raised by an arm of exec whose command has no meaning yet. Safe: nothing can be proved of a refused command. No
  arm raises it now. -/
  | notModelled (mnemonic : String)
  deriving DecidableEq, Repr

/-- The reset column of TABLE 1.1. -/
def Entry.initial : Entry :=
  { enabled := false, direction := .read, low := 0#32, high := 0#32, tags := 0#8, levels := 0#4, pattern := none,
    capture := false, dataOption := .none, lossless := false, alert := none, dispose := .none, blockStatus := .okay,
    stop := false, link := none, nextLevel := none }

/-- A class with no cause, no overflow and not in service (TABLE 10.2). -/
def AlertClass.empty : AlertClass := { causes := [], overflow := false, inService := false }

/-- Every mapped kind none (TABLE 10.2). -/
def AlertMap.allNone : AlertMap :=
  { holdRefused := Option.none, queueUrgent := Option.none, lossBegin := Option.none, losslessTimeout := Option.none,
    ringHigh := Option.none, ringDone := Option.none, portError := Option.none, pathReset := Option.none,
    sessionStopped := Option.none }

/-- The block right after a device reset, RESET released and no line asserted (R172 and the reset value of each block;
assumption 10). -/
def State.reset : State :=
  { rqp := { acceptance := .idle, presented := [], ready := [], upstream := none }
    rows := Vector.replicate 8 Row.empty
    fq := []
    entries := Vector.replicate 16 Entry.initial
    totals := Vector.replicate 16 0#32
    hold := { slots := Vector.replicate 2 none, ticket := 0#8, limit := 0#24, timeoutFail := false, holdClass := none }
    sc := { session := .off, level := 0, reason := .none, stopRecord := .notDue, startLevel := 0,
            levelRecords := false, stallLimit := 256#16 }
    tb := { ticks := 0#32, prescale := .div1, phase := 0 }
    counters := Vector.replicate 4 Counter.initial
    rbl := { refTime := 0#32, timeLost := false, losslessSeen := false }
    cq := { records := [], lossCount := 0#32, pendingLoss := 0#32, claim := none }
    rw := { base := 0#32, limit := 0#32, mode := .loop, watermark := 0, write := 0#32, read := 0#32, ringDone := false,
            armed := true, writer := .idle, written := 0, outstanding := none, placement := none }
    mpa := { port := .ready, passOver := 0 }
    au := { classes := Vector.replicate 4 AlertClass.empty, map := AlertMap.allNone }
    mgp := { frame := .idle, byteCount := 0, answer := [] }
    lines := { reset := false, prst := false, cs := false }
    choices := 0
    pending := [] }

end Sys2Proof.Machine
end

