-- ==== Sys2Proof/Machine/Operands.lean ====
section
/-! DEFINITION. Operand forms: the checks and fields of a request, the data test of a beat, and the fields that the
content bytes of each PUT spell, with the values that each owning rule accepts (R171, TABLE 11.8 to TABLE 11.14). -/

namespace Sys2Proof.Machine

/-! ### Indexes and sets -/

/-- The sixteen entries, in ascending order. -/
def allEntries : List (Fin 16) := [0, 1, 2, 3, 4, 5, 6, 7, 8, 9, 10, 11, 12, 13, 14, 15]

/-- The eight tags, in ascending order. -/
def allTags : List (Fin 8) := [0, 1, 2, 3, 4, 5, 6, 7]

/-- The four counters, in ascending order. -/
def allCounters : List (Fin 4) := [0, 1, 2, 3]

/-- The set of entries that meet `p`, entry n in bit n (R171). -/
def entrySet (p : Fin 16 → Bool) : BitVec 16 := (BitVec.ofBoolListLE (allEntries.map p)).setWidth 16

/-- The set of counters that meet `p`, counter n in bit n (R171). -/
def counterSet (p : Fin 4 → Bool) : BitVec 4 := (BitVec.ofBoolListLE (allCounters.map p)).setWidth 4

/-- The members of a set of entries, in ascending order. -/
def entriesIn (e : BitVec 16) : List (Fin 16) := allEntries.filter fun n => e.getLsbD n.val

/-- The members of a set of counters, in ascending order. -/
def countersIn (c : BitVec 4) : List (Fin 4) := allCounters.filter fun n => c.getLsbD n.val

/-- A vector with `f` applied to each element. -/
def mapVec {α β : Type} {n : Nat} (f : α → β) (v : Vector α n) : Vector β n := ⟨(v.toList.map f).toArray, by simp⟩

/-! ### Requests -/

/-- The size a request's code names (TABLE 11.5); none for the fourth code. -/
def sizeOf (code : BitVec 2) : Option Size :=
  if code = 0#2 then some .byte else if code = 1#2 then some .half else if code = 2#2 then some .word else none

/-- Bytes of a single beat (R9). -/
def Size.bytes : Size → Nat
  | .byte => 1
  | .half => 2
  | .word => 4

/-- The byte count of a request of the given beats and size (R9). -/
def spanBytes (beats : Nat) (size : Size) : Nat := if beats = 1 then size.bytes else 4 * beats

/-- The line of an address (00 section 0.5: an aligned 32-byte block). -/
def lineOf (address : Word) : Nat := address.toNat / 32

/-- The protocol check (R26): the request is malformed. -/
def malformed (r : Request) : Bool :=
  match sizeOf r.size with
  | none => true
  | some size =>
    if r.beats = 1 then decide (r.address.toNat % size.bytes ≠ 0)
    else if r.beats = 2 ∨ r.beats = 4 ∨ r.beats = 8 then
      decide (size ≠ .word) || decide (r.address.toNat % (4 * r.beats) ≠ 0)
    else true

/-- The size of a request that has passed the protocol check. -/
def requestSize (r : Request) : Size := (sizeOf r.size).getD .word

/-- Byte lane `k` of a word is bits 8k+7 to 8k (R24, 11.4.3). The mask of the lanes a request enables (R10, R24). -/
def laneMask (address : Word) (beats : Nat) (size : Size) : Word :=
  if beats = 1 then
    match size with
    | .word => 0xFFFFFFFF#32
    | .half => 0x0000FFFF#32 <<< (8 * (address.toNat % 4))
    | .byte => 0x000000FF#32 <<< (8 * (address.toNat % 4))
  else 0xFFFFFFFF#32

/-- A beat matches a data pattern (R10): a care bit lies in an enabled lane, and every such bit equals the compare
word's. -/
def Pattern.matches (p : Pattern) (mask beat : Word) : Bool :=
  let care := p.care &&& mask
  decide (care ≠ 0#32) && decide (beat &&& care = p.compare &&& care)

/-- Some beat matches (R11, R14). -/
def Pattern.matchesAny (p : Pattern) (mask : Word) (beats : List Word) : Bool := beats.any (p.matches mask)

/-- The entry's direction takes the request's kind (R8). -/
def Direction.takes : Direction → Kind → Bool
  | .either, _ => true
  | .read, k => decide (k = .read)
  | .write, k => decide (k = .write)

/-- The window overlaps the span of `count` bytes at `address` (R9). -/
def Entry.overlaps (e : Entry) (address : Word) (count : Nat) : Bool :=
  decide (e.low.toNat < address.toNat + count) && decide (address.toNat ≤ e.high.toNat)

/-- The entry meets its early criteria for the request at the arrival level (R8). -/
def Entry.meetsEarly (e : Entry) (r : Request) (level : Fin 4) : Bool :=
  e.enabled && e.direction.takes r.kind && e.overlaps r.address (spanBytes r.beats (requestSize r)) &&
    e.tags.getLsbD r.tag.val && e.levels.getLsbD level.val

/-- The entry hits the request early (R8, R11). -/
def Entry.hitsEarly (e : Entry) (r : Request) (level : Fin 4) : Bool :=
  e.meetsEarly r level &&
    match e.pattern with
    | none => true
    | some p => decide (r.kind = .write) && p.matchesAny (laneMask r.address r.beats (requestSize r)) r.data

/-- The read becomes a late candidate of the entry (R12). -/
def Entry.candidate (e : Entry) (r : Request) (level : Fin 4) : Bool :=
  e.meetsEarly r level && e.pattern.isSome && decide (r.kind = .read)

/-! ### Codes and optional fields of contents -/

/-- A value 0-3. -/
def fin4Of (n : Nat) : Option (Fin 4) := if h : n < 4 then some ⟨n, h⟩ else none

/-- An optional field (R171): bit 7 the presence marker, bits 3-0 the value. The outer none is a value above 3 that is
marked present, which the owning rule refuses. -/
def optionalOf (b : Byte) : Option (Option (Fin 4)) :=
  if b.getLsbD 7 then (fin4Of (b.toNat % 16)).map some else some none

/-- A yes or no code: 0 or 1 (TABLE 11.8, TABLE 11.14). -/
def yesNoOf (b : Byte) : Option Bool := if b = 0#8 then some false else if b = 1#8 then some true else none

/-- The direction codes (TABLE 11.13). -/
def directionOf (b : Byte) : Option Direction :=
  if b = 0#8 then some .read else if b = 1#8 then some .write else if b = 2#8 then some .either else none

/-- The data option codes (TABLE 11.13). -/
def dataOptionOf (b : Byte) : Option DataOption :=
  if b = 0#8 then some .none else if b = 1#8 then some .first else if b = 2#8 then some .all else none

/-- The dispose codes (TABLE 11.13). -/
def disposeOf (b : Byte) : Option Dispose :=
  if b = 0#8 then some .none else if b = 1#8 then some .hold else if b = 2#8 then some .block else none

/-- The block status codes (TABLE 11.13). -/
def blockStatusOf (b : Byte) : Option RespStatus :=
  if b = 0#8 then some .okay else if b = 1#8 then some .error else none

/-- The RELEASE disposition codes (TABLE 11.5). -/
def releaseDispositionOf (b : Byte) : Option Disposition :=
  if b = 0#8 then some .relForward else if b = 1#8 then some .relReplace else if b = 2#8 then some .relFail
  else if b = 3#8 then some .relAbsorb else if b = 4#8 then some .relSupply else none

/-- The prescale codes (R65). -/
def prescaleOf (b : Byte) : Option Prescale :=
  if b = 0#8 then some .div1 else if b = 1#8 then some .div16 else if b = 2#8 then some .div256
  else if b = 3#8 then some .div4096 else none

/-- The prescale divisor (R63). -/
def Prescale.divisor : Prescale → Nat
  | .div1 => 1
  | .div16 => 16
  | .div256 => 256
  | .div4096 => 4096

/-! ### Contents of the items -/

/-- The fields of a PUT ENTRY (TABLE 11.13), or none when a field lies outside its range (R4). -/
def entryOf (b : Bytes 28) : Option Entry :=
  (directionOf b[1]).bind fun direction =>
  (yesNoOf b[2]).bind fun capture =>
  (dataOptionOf b[3]).bind fun dataOption =>
  (disposeOf b[4]).bind fun dispose =>
  (blockStatusOf b[5]).bind fun blockStatus =>
  (optionalOf b[6]).bind fun alert =>
  (optionalOf b[7]).bind fun link =>
  (optionalOf b[8]).bind fun nextLevel =>
  let low := wordOfBytes b[12] b[13] b[14] b[15]
  let high := wordOfBytes b[16] b[17] b[18] b[19]
  if high.toNat < low.toNat then none
  else some
    { enabled := b[0].getLsbD 0
      direction := direction
      low := low
      high := high
      tags := b[9]
      levels := b[10].setWidth 4
      pattern :=
        if b[0].getLsbD 5 then
          some { compare := wordOfBytes b[20] b[21] b[22] b[23], care := wordOfBytes b[24] b[25] b[26] b[27] }
        else none
      capture := capture
      dataOption := dataOption
      lossless := b[0].getLsbD 3
      alert := alert
      dispose := dispose
      blockStatus := blockStatus
      stop := b[0].getLsbD 4
      link := link
      nextLevel := nextLevel }

/-- The two combinations that R5 refuses. -/
def Entry.illegal (e : Entry) : Bool :=
  (e.pattern.isSome && decide (e.direction ≠ .write) && decide (e.dispose ≠ .none)) || (e.lossless && !e.capture)

/-- The value of a constant field, 0 standing for 65536 (R66, TABLE 11.14). -/
def constantOf (hi lo : Byte) : Nat := if (hi ++ lo).toNat = 0 then 65536 else (hi ++ lo).toNat

/-- The configured fields of a PUT COUNTER n (TABLE 11.14), as a counter between sessions holds them (R68), or none
when a field lies outside its range (R67). -/
def counterOf (n : Fin 4) (b : Bytes 11) : Option Counter :=
  (if b[0] = 0#8 then some CounterMode.event else if b[0] = 1#8 then some .time else none).bind fun mode =>
  (if b[1] = 0#8 then some CounterSource.entries
   else if b[1] = 1#8 then
     (if b[2].toNat < n.val then (fin4Of b[2].toNat).map CounterSource.cascade else none)
   else none).bind fun source =>
  (if b[3] = 0#8 then some CounterStart.immediate else if b[3] = 1#8 then some .onHit else none).bind fun start =>
  (if b[4] = 0#8 then some CounterReload.reload else if b[4] = 1#8 then some .oneshot else none).bind fun reloading =>
  (optionalOf b[5]).bind fun alert =>
  (optionalOf b[6]).bind fun nextLevel =>
  (yesNoOf b[7]).bind fun stop =>
  (yesNoOf b[8]).bind fun record =>
  some
    { mode := mode, source := source, start := start, constant := constantOf b[9] b[10], pending := none,
      value := constantOf b[9] b[10], state := .idle, reload := reloading, alert := alert, nextLevel := nextLevel,
      stop := stop, record := record, tickPending := false }

/-- The configured fields other than the constant are the same (R69). -/
def Counter.sameConfig (c d : Counter) : Bool :=
  decide (c.mode = d.mode) && decide (c.source = d.source) && decide (c.start = d.start) &&
    decide (c.reload = d.reload) && decide (c.alert = d.alert) && decide (c.nextLevel = d.nextLevel) &&
    decide (c.stop = d.stop) && decide (c.record = d.record)

/-- The session configuration of a PUT SESSION (TABLE 11.8), or none when R61's range check fails. -/
def sessionConfigOf (b : Bytes 4) : Option (Fin 4 × Bool × BitVec 16) :=
  (fin4Of b[0].toNat).bind fun startLevel =>
  (yesNoOf b[1]).bind fun levelRecords =>
  if b[2] ++ b[3] = 0#16 then none else some (startLevel, levelRecords, b[2] ++ b[3])

/-- A ring descriptor. -/
structure Descriptor where
  base      : Word
  limit     : Word
  mode      : RingMode
  watermark : Nat
  deriving DecidableEq, Repr

/-- The descriptor of a PUT RING (TABLE 11.9), or none when R135's second check fails. -/
def descriptorOf (b : Bytes 13) : Option Descriptor :=
  let base := wordOfBytes b[0] b[1] b[2] b[3]
  let limit := wordOfBytes b[4] b[5] b[6] b[7]
  let watermark := (wordOfBytes b[9] b[10] b[11] b[12]).toNat
  (if b[8] = 0#8 then some RingMode.loop else if b[8] = 1#8 then some .once else none).bind fun mode =>
  if base.toNat % 32 = 0 ∧ limit.toNat % 32 = 0 ∧ base.toNat + 64 ≤ limit.toNat ∧
      limit.toNat ≤ base.toNat + 16777216 ∧ 1 ≤ watermark ∧ watermark < (limit.toNat - base.toNat) / 4 then
    some { base := base, limit := limit, mode := mode, watermark := watermark }
  else none

/-- The HOLD item of a PUT HOLD (TABLE 11.10): limit, timeout disposition FAIL, hold class; none when R101's check
fails. -/
def holdConfigOf (b : Bytes 5) : Option (BitVec 24 × Bool × Option (Fin 4)) :=
  (yesNoOf b[3]).bind fun fail =>
  (optionalOf b[4]).bind fun holdClass =>
  some (b[0] ++ b[1] ++ b[2], fail, holdClass)

/-- The alert map of a PUT ALERTMAP (TABLE 11.12), or none when a class marked present exceeds 3 (R158). -/
def alertMapOf (b : Bytes 9) : Option AlertMap :=
  (optionalOf b[0]).bind fun holdRefused =>
  (optionalOf b[1]).bind fun queueUrgent =>
  (optionalOf b[2]).bind fun lossBegin =>
  (optionalOf b[3]).bind fun losslessTimeout =>
  (optionalOf b[4]).bind fun ringHigh =>
  (optionalOf b[5]).bind fun ringDone =>
  (optionalOf b[6]).bind fun portError =>
  (optionalOf b[7]).bind fun pathReset =>
  (optionalOf b[8]).bind fun sessionStopped =>
  some
    { holdRefused := holdRefused, queueUrgent := queueUrgent, lossBegin := lossBegin,
      losslessTimeout := losslessTimeout, ringHigh := ringHigh, ringDone := ringDone, portError := portError,
      pathReset := pathReset, sessionStopped := sessionStopped }

end Sys2Proof.Machine
end

