-- ==== Sys2Proof/Machine/Flags.lean ====
section
/-! DEFINITION. Derived conditions: what the spec forms from the state and does not hold as a field (occupancy,
urgency, ALERT, used and free space, ages), and the conditions under which an event of the block falls due. -/

namespace Sys2Proof.Machine

/-! ### Capture Queue -/

/-- Data words of the record's HIT fields are appended to four words; the other lengths are TABLE 6.2's. -/
def RecordBody.length : RecordBody → Nat
  | .start _ _ => 2
  | .stop _ _ => 3
  | .hit h => 4 + h.data.length
  | .gap => 1
  | .loss _ => 2
  | .level _ _ _ _ => 2
  | .expiry _ => 1
  | .mark _ => 2
  | .wrap => 1

/-- The length of the whole record in words (R104). -/
def Record.length (r : Record) : Nat := r.body.length

/-- The words of a list of records. -/
def wordsIn (rs : List Record) : Nat := (rs.map Record.length).sum

/-- Occupancy (R120). -/
def CaptureQueue.occupancy (q : CaptureQueue) : Nat := wordsIn q.records

/-- The urgent state (R130). -/
def CaptureQueue.urgent (q : CaptureQueue) : Bool := decide (Config.urgentWords ≤ q.occupancy)

/-- The room available to a bundle (R122): a claim is set aside from every bundle but the claim's own. -/
def CaptureQueue.room (q : CaptureQueue) (own : Bool) : Nat :=
  Config.queueWords - q.occupancy - (if own then 0 else q.claim.getD 0)

/-! ### Rows and slots -/

/-- A row is live in every state except EMPTY and ORPHAN (R29). -/
def RowState.live : RowState → Bool
  | .empty | .orphan => false
  | .deciding | .queued | .issued | .parked | .responding => true

/-- Some row owes a record (R51, R52). -/
def State.someOwes (s : State) : Bool := s.rows.toList.any (·.owed)

/-- Some slot is PARKED with a WRITE in the line (R95). -/
def State.covered (s : State) (address : Word) : Bool :=
  s.hold.slots.toList.any fun p =>
    match p with
    | none => false
    | some p => decide (p.kind = .write) && decide (lineOf p.address = lineOf address)

/-- The lowest-numbered FREE slot (R84). -/
def HoldUnit.freeSlot (h : HoldUnit) : Option (Fin 2) :=
  if h.slots[0].isNone then some 0 else if h.slots[1].isNone then some 1 else none

/-- The slot's age, or none when it is FREE (R82). -/
def State.slotAge (s : State) (n : Fin 2) : Option Word := (s.hold.slots[n]).map fun p => s.tb.ticks - p.parkTime

/-- The session makes records: WATCHING or STOPPING (R105). -/
def Session.records : Session → Bool
  | .watching | .stopping => true
  | .off | .stopped | .fault => false

/-- Lossless waits can stand: the session makes records and RING_DONE is clear (R129). -/
def State.mayWait (s : State) : Bool := s.sc.session.records && !s.rw.ringDone

/-! ### Ring Writer -/

/-- The ring's size in words (R134). -/
def RingWriter.size (r : RingWriter) : Nat := (r.limit.toNat - r.base.toNat) / 4

/-- The distance in words from `a` forward to `b` around the ring (R136, R145). -/
def RingWriter.distance (r : RingWriter) (a b : Word) : Nat :=
  ((b.toNat + (r.limit.toNat - r.base.toNat) - a.toNat) / 4) % r.size

/-- The used space in LOOP mode (R136). -/
def RingWriter.used (r : RingWriter) : Nat := r.distance r.read r.write

/-- The free space in LOOP mode (R136). -/
def RingWriter.free (r : RingWriter) : Nat := r.size - r.used - 1

/-- The words from WRITE up to LIMIT, w of R137. -/
def RingWriter.toLimit (r : RingWriter) : Nat := (r.limit.toNat - r.write.toNat) / 4

/-- The words written since BASE (R136, R146). -/
def RingWriter.writtenWords (r : RingWriter) : Nat := (r.write.toNat - r.base.toNat) / 4

/-- What is compared with the watermark at a publication (R146). -/
def RingWriter.fill (r : RingWriter) : Nat :=
  match r.mode with
  | .loop => r.used
  | .once => r.writtenWords

/-- Idle in the sense of R52: writer state IDLE and no burst outstanding (R134). -/
def RingWriter.isIdle (r : RingWriter) : Bool := decide (r.writer = .idle) && r.outstanding.isNone

/-- The ring descriptor is valid: a PUT RING has been taken since device reset (R46). -/
def RingWriter.valid (r : RingWriter) : Bool := decide (r.base.toNat < r.limit.toNat)

/-- The next burst that the Ring Writer requests the Memory Port for (R153). -/
def RingWriter.request (r : RingWriter) : Option Burst :=
  if r.writer = .writing ∧ r.outstanding.isNone then
    match r.placement with
    | some p => p.bursts.head?
    | none => none
  else none

/-! ### Alert Unit -/

/-- No class with this number or a lower one is in service: the class's number is lower than that of every class in
service (R160). -/
def AlertUnit.above (a : AlertUnit) (c : Fin 4) : Bool :=
  allCounters.all fun d => !(a.classes[d].inService && decide (d.val ≤ c.val))

/-- A class is eligible (R160). -/
def AlertUnit.eligible (a : AlertUnit) (c : Fin 4) : Bool := !(a.classes[c].causes.isEmpty) && a.above c

/-- The lowest-numbered eligible class (R162). -/
def AlertUnit.lowestEligible (a : AlertUnit) : Option (Fin 4) := allCounters.find? a.eligible

/-- The lowest-numbered class in service (R163). -/
def AlertUnit.lowestInService (a : AlertUnit) : Option (Fin 4) := allCounters.find? fun c => a.classes[c].inService

/-- ALERT is asserted (R160). -/
def AlertUnit.alert (a : AlertUnit) : Bool := a.lowestEligible.isSome

/-- The class the alert map gives a mapped kind (TABLE 10.1); the other kinds are not mapped. -/
def AlertMap.classOf (m : AlertMap) : CauseKind → Option (Fin 4)
  | .holdRefused => m.holdRefused
  | .queueUrgent => m.queueUrgent
  | .lossBegin => m.lossBegin
  | .losslessTimeout => m.losslessTimeout
  | .ringHigh => m.ringHigh
  | .ringDone => m.ringDone
  | .portError => m.portError
  | .pathReset => m.pathReset
  | .sessionStopped => m.sessionStopped
  | .entryHit | .parked | .holdTimeout | .expiry | .ringFault => none

/-! ### Events that fall due -/

/-- The Request Port may read a request: no wait, RESET and PRST not asserted (R31, R42, R172). -/
def State.mayRead (s : State) : Bool :=
  decide (s.rqp.acceptance = .idle) && !s.lines.reset && !s.lines.prst

/-- The slot times out (R92): a limit of 1 or more that the age has reached. -/
def State.holdDue (s : State) (n : Fin 2) : Bool :=
  match s.slotAge n with
  | none => false
  | some age => decide (1 ≤ s.hold.limit.toNat) && decide (s.hold.limit.toNat ≤ age.toNat)

/-- A stall timer started at `since` has reached the lossless stall limit (R128). -/
def State.stallDue (s : State) (since : Word) : Bool :=
  decide (s.sc.stallLimit.toNat ≤ (s.tb.ticks - since).toNat)

/-- The autonomous GAP is due (R117). -/
def State.gapDue (s : State) : Bool :=
  (decide (s.sc.session = .watching) || (decide (s.sc.session = .stopping) && decide (s.sc.stopRecord ≠ .placed))) &&
    !s.rbl.timeLost && decide (s.tb.ticks - s.rbl.refTime = Config.autoGapAge)

/-- Some counter's expiry at the current tick has yet to be taken (R74). -/
def State.expiryDue (s : State) : Bool :=
  decide (s.sc.session = .watching) && s.counters.toList.any (·.tickPending)

end Sys2Proof.Machine
end

