-- ==== Sys2Proof/Machine/Formats.lean ====
section
/-! DEFINITION. The layouts the host sees (11.4): status codes, command results, GET layouts, and the words of a
capture record. -/

namespace Sys2Proof.Machine

/-! ### Codes -/

/-- The status codes (TABLE 11.3). -/
inductive Status where
  | ok
  | busy
  | state
  | badarg
  | illegal
  | stale
  | none
  | notService
  | unknown
  deriving DecidableEq, Repr

/-- The code of a status (TABLE 11.3). -/
def Status.code : Status → Byte
  | .ok => 0x00#8
  | .busy => 0x01#8
  | .state => 0x02#8
  | .badarg => 0x03#8
  | .illegal => 0x04#8
  | .stale => 0x05#8
  | .none => 0x06#8
  | .notService => 0x07#8
  | .unknown => 0x0F#8

/-- The codes of TABLE 11.5. -/
def Session.code : Session → Nat
  | .off => 0
  | .watching => 1
  | .stopping => 2
  | .stopped => 3
  | .fault => 4

def StopReason.code : StopReason → Nat
  | .none => 0
  | .command => 1
  | .entry _ => 2
  | .counter _ => 3
  | .ringDone => 4
  | .fault => 5

/-- The stop index (R62): the number of the entry or counter. R112 gives 0 for COMMAND and RING_DONE; that it is 0 for
NONE and FAULT too is the model's choice (assumption 33). -/
def StopReason.index : StopReason → Nat
  | .entry n => n.val
  | .counter n => n.val
  | .none | .command | .ringDone | .fault => 0

/-- The kind codes (TABLE 11.5). -/
def kindCode : Kind → Nat
  | .read => 0
  | .write => 1

def Size.code : Size → Nat
  | .byte => 0
  | .half => 1
  | .word => 2

/-- The beats code in records and rows: 0 for 1, 1 for 2, 2 for 4, 3 for 8 (TABLE 11.5). -/
def beatsCode (beats : Nat) : Nat := if beats ≤ 1 then 0 else if beats ≤ 2 then 1 else if beats ≤ 4 then 2 else 3

def RowState.code : RowState → Nat
  | .empty => 0
  | .deciding => 1
  | .queued => 2
  | .issued => 3
  | .parked => 4
  | .responding => 5
  | .orphan => 6

def Disposition.code : Disposition → Nat
  | .forwarded => 0
  | .blocked => 1
  | .relForward => 2
  | .relReplace => 3
  | .relFail => 4
  | .relAbsorb => 5
  | .relSupply => 6
  | .timeoutForward => 7
  | .timeoutFail => 8
  | .stopForward => 9

def CauseKind.code : CauseKind → Nat
  | .entryHit => 1
  | .parked => 2
  | .holdTimeout => 3
  | .expiry => 4
  | .ringFault => 5
  | .holdRefused => 6
  | .queueUrgent => 7
  | .lossBegin => 8
  | .losslessTimeout => 9
  | .ringHigh => 10
  | .ringDone => 11
  | .portError => 12
  | .pathReset => 13
  | .sessionStopped => 14

def LevelCause.code : LevelCause → Nat
  | .entry => 0
  | .counter => 1
  | .command => 2

def DataOption.code : DataOption → Nat
  | .none => 0
  | .first => 1
  | .all => 2

/-! ### Bytes -/

def byteOf (n : Nat) : Byte := BitVec.ofNat 8 n

/-- Bit `k` of a byte when `b`. -/
def bitAt (b : Bool) (k : Nat) : Byte := if b then 1#8 <<< k else 0#8

def yesNo (b : Bool) : Byte := bitAt b 0

/-- An optional field (R171): the marker in bit 7 and the value; 0 when absent. -/
def optionalByte : Option (Fin 4) → Byte
  | none => 0#8
  | some v => 0x80#8 ||| byteOf v.val

/-- Two bytes, most significant first (R171). -/
def bytes16 (v : BitVec 16) : List Byte := [v.extractLsb' 8 8, v.extractLsb' 0 8]

/-- Three bytes, most significant first (R171). -/
def bytes24 (v : BitVec 24) : List Byte := [v.extractLsb' 16 8, v.extractLsb' 8 8, v.extractLsb' 0 8]

/-- A constant or current value, 65536 read as 0 (R66). -/
def constantBytes (n : Nat) : List Byte := bytes16 (BitVec.ofNat 16 n)

/-! ### Command results -/

/-- STATUS results (R169, TABLE 11.6). -/
def statusBytes (s : State) : List Byte :=
  [byteOf s.sc.session.code ||| (byteOf s.sc.level.val <<< 4) ||| bitAt s.au.alert 7,
   bitAt s.hold.slots[0].isSome 0 ||| bitAt s.hold.slots[1].isSome 1 ||| bitAt s.cq.urgent 2]

/-- ACK results (TABLE 11.7). -/
def ackBytes (c : Fin 4) (overflow : Bool) (x : Cause) : List Byte :=
  [byteOf c.val ||| bitAt overflow 7, byteOf x.kind.code, byteOf x.index, byteOf x.count]

/-! ### Items -/

/-- SESSION (R62, TABLE 11.8). -/
def sessionBytes (s : State) : List Byte :=
  [byteOf s.sc.startLevel.val, yesNo s.sc.levelRecords] ++ bytes16 s.sc.stallLimit ++
    [byteOf s.sc.session.code, byteOf s.sc.level.val, byteOf s.sc.reason.code, byteOf s.sc.reason.index,
     byteOf s.cq.occupancy, bitAt s.cq.urgent 0 ||| bitAt s.rw.ringDone 1] ++
    bytesOfWord s.cq.lossCount ++ bytesOfWord s.rw.write ++ bytesOfWord s.rw.read

/-- RING (R135, TABLE 11.9). -/
def ringBytes (r : RingWriter) : List Byte :=
  bytesOfWord r.base ++ bytesOfWord r.limit ++ [yesNo (decide (r.mode = .once))] ++
    bytesOfWord (BitVec.ofNat 32 r.watermark)

/-- HOLD (R101, TABLE 11.10). -/
def holdBytes (h : HoldUnit) : List Byte :=
  bytes24 h.limit ++ [yesNo h.timeoutFail, optionalByte h.holdClass, h.ticket]

/-- The prescale code (R65). -/
def Prescale.code : Prescale → Byte
  | .div1 => 0#8
  | .div16 => 1#8
  | .div256 => 2#8
  | .div4096 => 3#8

/-- TIMEBASE (R65, TABLE 11.11). -/
def timebaseBytes (t : Timebase) : List Byte := t.prescale.code :: bytesOfWord t.ticks

/-- ALERTMAP (R158, TABLE 11.12). -/
def alertMapBytes (m : AlertMap) : List Byte :=
  [m.holdRefused, m.queueUrgent, m.lossBegin, m.losslessTimeout, m.ringHigh, m.ringDone, m.portError, m.pathReset,
    m.sessionStopped].map optionalByte

/-- TOTALS (R21): sixteen 4-byte totals, entry 0 first. -/
def totalsBytes (totals : Vector Word 16) : List Byte := totals.toList.flatMap bytesOfWord

/-- ENTRY n (R6, TABLE 11.13). -/
def entryBytes (e : Entry) : List Byte :=
  [bitAt e.enabled 0 ||| bitAt e.lossless 3 ||| bitAt e.stop 4 ||| bitAt e.pattern.isSome 5,
   byteOf (match e.direction with | .read => 0 | .write => 1 | .either => 2),
   yesNo e.capture, byteOf e.dataOption.code,
   byteOf (match e.dispose with | .none => 0 | .hold => 1 | .block => 2),
   yesNo (decide (e.blockStatus = .error)),
   optionalByte e.alert, optionalByte e.link, optionalByte e.nextLevel, e.tags, e.levels.setWidth 8, 0#8] ++
    bytesOfWord e.low ++ bytesOfWord e.high ++
    (match e.pattern with
     | none => bytesOfWord 0#32 ++ bytesOfWord 0#32
     | some p => bytesOfWord p.compare ++ bytesOfWord p.care)

/-- COUNTER n (R70, TABLE 11.14). Bytes 12-13 are 0 when no pending constant is present: the model's choice (assumption
32). -/
def counterBytes (c : Counter) : List Byte :=
  [yesNo (decide (c.mode = .time)),
   (match c.source with | .entries => 0#8 | .cascade _ => 1#8),
   (match c.source with | .entries => 0#8 | .cascade k => byteOf k.val),
   yesNo (decide (c.start = .onHit)), yesNo (decide (c.reload = .oneshot)),
   optionalByte c.alert, optionalByte c.nextLevel, yesNo c.stop, yesNo c.record] ++
    constantBytes c.constant ++ [yesNo c.pending.isSome] ++ constantBytes (c.pending.getD 0) ++
    constantBytes c.value ++
    [byteOf (match c.state with | .idle => 0 | .waitStart => 1 | .counting => 2)]

/-- SLOT n (R102, TABLE 11.15). -/
def slotBytes : Option Parked → List Byte
  | none => [0#8, 0#8, 0#8] ++ bytesOfWord 0#32 ++ [0#8, 0#8, 0#8] ++ bytesOfWord 0#32
  | some p =>
    [1#8, byteOf p.tag.val, p.ticket] ++ bytesOfWord p.parkTime ++
      [byteOf (kindCode p.kind), byteOf p.size.code, byteOf (beatsCode p.beats)] ++ bytesOfWord p.address ++
      p.writeData.flatMap bytesOfWord

/-- INFLIGHT n (R30, TABLE 11.16). -/
def inflightBytes (r : Row) : List Byte :=
  [byteOf r.state.code, byteOf (kindCode r.kind), byteOf r.size.code, byteOf (beatsCode r.beats)] ++
    bytesOfWord r.address ++ [byteOf r.arrivalLevel.val] ++ bytesOfWord r.takingTime ++ bytes16 r.early ++
    bytes16 r.late ++ bytes16 r.hits ++
    [byteOf r.option.code, bitAt r.owed 0 ||| bitAt r.lossless 1 ||| bitAt r.holdRefused 2, r.notified.setWidth 8,
     byteOf r.carry.code, byteOf r.writeData.length, byteOf r.readBuf.length] ++
    r.writeData.flatMap bytesOfWord ++ r.readBuf.flatMap bytesOfWord

/-! ### Capture records -/

/-- The record kind codes (TABLE 11.5). -/
def RecordBody.kindCode : RecordBody → BitVec 4
  | .start _ _ => 1#4
  | .stop _ _ => 2#4
  | .hit _ => 3#4
  | .gap => 4#4
  | .loss _ => 5#4
  | .level _ _ _ _ => 6#4
  | .expiry _ => 7#4
  | .mark _ => 8#4
  | .wrap => 15#4

/-- The info field of a header (TABLE 11.17). -/
def RecordBody.info : RecordBody → BitVec 3
  | .start _ lv => BitVec.ofNat 3 lv.val
  | .stop _ reason => BitVec.ofNat 3 reason.code
  | .expiry n => BitVec.ofNat 3 n.val
  | .hit _ | .gap | .loss _ | .level _ _ _ _ | .mark _ | .wrap => 0#3

/-- The header word (R104, TABLE 11.17). -/
def Record.header (r : Record) : Word :=
  r.body.kindCode ++ BitVec.ofNat 4 r.length ++ BitVec.ofBool r.timeLost ++ r.body.info ++ r.time

/-- Words 2 to 4 + d of a HIT record (TABLE 11.18). -/
def HitRecord.words (h : HitRecord) : List Word :=
  h.address ::
  (h.hitSet ++ BitVec.ofNat 3 h.tag.val ++ BitVec.ofNat 1 (kindCode h.kind) ++ BitVec.ofNat 2 h.size.code ++
    BitVec.ofNat 2 (beatsCode h.beats) ++ BitVec.ofNat 2 h.level.val ++ 0#6) ::
  (BitVec.ofNat 4 h.disposition.code ++ BitVec.ofBool h.late ++ BitVec.ofBool h.memError ++
    BitVec.ofBool h.holdRefused ++ BitVec.ofBool h.losslessTimeout ++ BitVec.ofNat 4 h.data.length ++ 0#4 ++
    BitVec.ofNat 16 h.elapsed) ::
  h.data

/-- The words after the header (TABLE 11.18, TABLE 11.19). -/
def RecordBody.words : RecordBody → List Word
  | .start time _ => [time]
  | .stop time reason => [time, BitVec.ofNat 32 reason.index]
  | .hit h => h.words
  | .loss count => [count]
  | .level old new cause index =>
    [0#6 ++ BitVec.ofNat 2 old.val ++ 0#6 ++ BitVec.ofNat 2 new.val ++ 0#6 ++ BitVec.ofNat 2 cause.code ++ 0#4 ++
      BitVec.ofNat 4 index]
  | .mark value => [value]
  | .gap | .expiry _ | .wrap => []

/-- The words of a record, header first (R104). -/
def Record.words (r : Record) : List Word := r.header :: r.body.words

/-- The WRAP word (R141). -/
def wrapRecord : Record := { body := .wrap, timeLost := false, time := 0#20 }

end Sys2Proof.Machine
end

