-- ==== Sys2Proof/Machine/Ops.lean ====
section
/-! DEFINITION. Shared operations over rows, responses, alerts and the Capture Queue. -/

namespace Sys2Proof.Machine

/-! ### Rows, Forward Queue, responses -/

/-- The row of a tag, changed by `f`. -/
def modifyRow (tag : Fin 8) (f : Row → Row) (s : State) : State :=
  { s with rows := s.rows.set tag (f s.rows[tag]) }

/-- Every row changed by `f`. -/
def mapRows (f : Row → Row) (s : State) : State := { s with rows := mapVec f s.rows }

/-- The tag joins the tail of the Forward Queue and its row becomes QUEUED (R35, TABLE 2.3). -/
def queueForward (tag : Fin 8) (s : State) : State :=
  modifyRow tag (fun r => { r with state := .queued }) { s with fq := s.fq ++ [tag] }

/-- A response becomes ready for the upstream bus (R39). -/
def respond (r : Response) (s : State) : State := { s with rqp := { s.rqp with ready := s.rqp.ready ++ [r] } }

/-- The data a row's response carries (R23): a READ answered OKAY carries its read data buffer, every other none. -/
def responseData (r : Row) (status : RespStatus) : List Word :=
  match r.kind, status with
  | .read, .okay => r.readBuf
  | .read, .error => []
  | .write, _ => []

/-- The row's response is given to the response path, and the row becomes EMPTY (R28, R36, R37, R38). -/
def deliverRow (tag : Fin 8) (status : RespStatus) (s : State) : State :=
  modifyRow tag (fun _ => Row.empty)
    (respond { status := status, tag := tag, data := responseData s.rows[tag] status } s)

/-- The row's debt is discharged: its record was placed, dropped or counted as lost (R105). -/
def clearDebt (tag : Fin 8) (s : State) : State := modifyRow tag (fun r => { r with owed := false }) s

/-! ### Alerts -/

/-- A cause joins a class (R159): it coalesces with one of the same kind and index, is appended, or is dropped with the
overflow flag set. -/
def AlertClass.add (c : AlertClass) (kind : CauseKind) (index : Nat) : AlertClass :=
  if c.causes.any (fun x => decide (x.kind = kind) && decide (x.index = index)) then
    { c with
      causes := c.causes.map fun x =>
        if x.kind = kind ∧ x.index = index then { x with count := min Config.repeatMax (x.count + 1) } else x }
  else if c.causes.length < Config.classCauses then
    { c with causes := c.causes ++ [{ kind := kind, index := index, count := 1 }] }
  else { c with overflow := true }

/-- A cause is raised in a class, or not raised when the class is absent or none (R157, R159). -/
def raise (cls : Option (Fin 4)) (kind : CauseKind) (index : Nat) (s : State) : State :=
  match cls with
  | none => s
  | some c => { s with au := { s.au with classes := s.au.classes.set c (s.au.classes[c].add kind index) } }

/-- A mapped cause is raised in the class the alert map gives (R157). -/
def raiseMapped (kind : CauseKind) (index : Nat) (s : State) : State := raise (s.au.map.classOf kind) kind index s

/-! ### Losing records -/

/-- A 32-bit count that saturates. -/
def satAdd (w : Word) (n : Nat) : Word := if w.toNat + n < 4294967296 then BitVec.ofNat 32 (w.toNat + n) else 0xFFFFFFFF#32

/-- Records are counted as lost, with no change to the pending loss count (R123). -/
def countLost (n : Nat) (s : State) : State := { s with cq := { s.cq with lossCount := satAdd s.cq.lossCount n } }

/-- A record is dropped (R123). -/
def dropRecord (s : State) : State :=
  let t := { s with cq := { s.cq with lossCount := satAdd s.cq.lossCount 1,
                                      pendingLoss := satAdd s.cq.pendingLoss 1 } }
  if s.cq.pendingLoss = 0#32 then raiseMapped .lossBegin 0 t else t

/-! ### Bundles and admission -/

/-- The LOSS record due (R115): delta 0, time-lost clear. -/
def lossDue (s : State) : List Record :=
  if s.cq.pendingLoss = 0#32 then [] else [{ body := .loss s.cq.pendingLoss, timeLost := false, time := 0#20 }]

/-- Ticks since the reference time (R116). -/
def sinceReference (s : State) : Nat := (s.tb.ticks - s.rbl.refTime).toNat

/-- A GAP record of `count` whole periods (R104, R116): time-lost clear. -/
def gapRecord (count : Nat) : Record := { body := .gap, timeLost := false, time := BitVec.ofNat 20 count }

/-- The record with the time it is placed at, behind the lazy GAP due (R116, R118). -/
def timed (s : State) (b : RecordBody) : List Record :=
  if s.rbl.timeLost then [{ body := b, timeLost := true, time := 0#20 }]
  else
    (if Config.gapPeriod ≤ sinceReference s then [gapRecord (sinceReference s / Config.gapPeriod)] else []) ++
      [{ body := b, timeLost := false, time := BitVec.ofNat 20 (sinceReference s % Config.gapPeriod) }]

/-- The record as it is placed: a HIT record carries LOSSLESS_TIMEOUT when the lossless timeout seen flag is set
(R107). -/
def markSeen (seen : Bool) : RecordBody → RecordBody
  | .hit h => .hit { h with losslessTimeout := seen }
  | b => b

/-- The record is a HIT record, whose placement clears the lossless timeout seen flag (R103, R107). -/
def RecordBody.isHit : RecordBody → Bool
  | .hit _ => true
  | .start _ _ | .stop _ _ | .gap | .loss _ | .level _ _ _ _ | .expiry _ | .mark _ | .wrap => false

/-- The bundle of a record: LOSS, GAP, record (R115, R122). -/
def bundle (s : State) (b : RecordBody) : List Record := lossDue s ++ timed s (markSeen s.rbl.losslessSeen b)

/-- Records join the tail of the queue; QUEUE_URGENT is raised when the occupancy reaches 96 words (R122, R130). -/
def append (rs : List Record) (s : State) : State :=
  let t := { s with cq := { s.cq with records := s.cq.records ++ rs } }
  if !s.cq.urgent && t.cq.urgent then raiseMapped .queueUrgent 0 t else t

/-- The bundle of the record is admitted if it fits (R122); `own` says whether the claim is this bundle's own. The
offer is refused with none otherwise, and nothing changes. -/
def admitBundle (own : Bool) (b : RecordBody) (s : State) : Option State :=
  if wordsIn (bundle s b) ≤ s.cq.room own then
    let t := append (bundle s b) s
    some
      { t with
        cq := { t.cq with pendingLoss := 0#32, claim := if own then none else t.cq.claim }
        rbl := { refTime := s.tb.ticks, timeLost := false, losslessSeen := s.rbl.losslessSeen && !b.isHit } }
  else none

/-- Every record in the queue is discarded and counted as lost; the pending loss count becomes 0 and the claim absent
(R131, R132). -/
def discardCounted (s : State) : State :=
  { s with cq := { records := [], lossCount := satAdd s.cq.lossCount s.cq.records.length, pendingLoss := 0#32,
                   claim := none } }

/-! ### HIT records -/

/-- The elapsed field (R110). -/
def elapsedSince (s : State) (time : Word) : Nat := min Config.elapsedMax (s.tb.ticks - time).toNat

/-- The data words of a HIT record (R109): of a write the data the master wrote, of a read the read data buffer, as the
merged capture option asks. A read with no data to record has an empty buffer. -/
def recordData (r : Row) : List Word :=
  let source := match r.kind with
    | .write => r.writeData
    | .read => r.readBuf
  match r.option with
  | .none => []
  | .first => source.take 1
  | .all => source.take r.beats

/-- The HIT record of the row of `tag`, built now (R106-R110). LATE is set when an entry outside the early hit set hit.
LOSSLESS_TIMEOUT is settled at the placement. -/
def buildHit (s : State) (tag : Fin 8) (d : Disposition) (memError refused : Bool) : HitRecord :=
  let r := s.rows[tag]
  { address := r.address
    hitSet := r.hits
    tag := tag
    kind := r.kind
    size := r.size
    beats := r.beats
    level := r.arrivalLevel
    disposition := d
    late := decide (r.hits &&& ~~~r.early ≠ 0#16)
    memError := memError
    holdRefused := refused
    losslessTimeout := false
    elapsed := elapsedSince s r.takingTime
    data := recordData r }

end Sys2Proof.Machine
end

