-- ==== Sys2Proof/Machine/RingOps.lean ====
section
/-! DEFINITION. The Ring Writer's choice of ring addresses, its bursts, and the Memory Port Arbiter's grants
(chapters 8 and 9). -/

namespace Sys2Proof.Machine

/-- The size of the next burst of a run (R141): the largest of 8, 4, 2 and 1 not above the words left and to whose
length the address is aligned. -/
def burstSize (a : Word) (n : Nat) : Nat :=
  if 8 ≤ n ∧ a.toNat % 32 = 0 then 8
  else if 4 ≤ n ∧ a.toNat % 16 = 0 then 4
  else if 2 ≤ n ∧ a.toNat % 8 = 0 then 2
  else 1

/-- A run of consecutive words cut into bursts in address order (R141); `fuel` bounds the bursts. -/
def cutRunWith : Nat → Word → List Word → List Burst
  | 0, _, _ => []
  | _ + 1, _, [] => []
  | fuel + 1, a, w :: ws =>
    let b := burstSize a (w :: ws).length
    { address := a, words := (w :: ws).take b } :: cutRunWith fuel (a + BitVec.ofNat 32 (4 * b)) ((w :: ws).drop b)

/-- A run of consecutive words cut into bursts (R141). -/
def cutRun (a : Word) (ws : List Word) : List Burst := cutRunWith ws.length a ws

/-- The address `n` words past `a`; a WRITE that would reach LIMIT becomes BASE (R143). -/
def RingWriter.advance (r : RingWriter) (a : Word) (n : Nat) : Word :=
  if a + BitVec.ofNat 32 (4 * n) = r.limit then r.base else a + BitVec.ofNat 32 (4 * n)

/-- The record alone at WRITE (R138, R140). -/
def RingWriter.single (r : RingWriter) (h : Record) : Placement :=
  { wrapAlone := false, bursts := cutRun r.write h.words, newWrite := r.advance r.write h.length }

/-- A WRAP word at WRITE followed by the record at BASE (R138). -/
def RingWriter.wrapping (r : RingWriter) (h : Record) : Placement :=
  { wrapAlone := false, bursts := cutRun r.write wrapRecord.words ++ cutRun r.base h.words,
    newWrite := r.advance r.base h.length }

/-- The WRAP word alone at WRITE (R139). -/
def RingWriter.wrapOnly (r : RingWriter) : Placement :=
  { wrapAlone := true, bursts := cutRun r.write wrapRecord.words, newWrite := r.base }

/-- What the Ring Writer makes of the head record. -/
inductive HeadChoice where
  | write (p : Placement)
  | waitSpace
  | finished
  deriving DecidableEq, Repr

/-- The placement of a head record (R138, R139, R140). -/
def RingWriter.choose (r : RingWriter) (h : Record) : HeadChoice :=
  match r.mode with
  | .once => if h.length < r.toLimit then .write (r.single h) else .finished
  | .loop =>
    if h.length ≤ r.toLimit then
      (if h.length ≤ r.free then .write (r.single h) else .waitSpace)
    else if r.size - 1 < r.toLimit + h.length then
      (if r.toLimit ≤ r.free then .write r.wrapOnly else .waitSpace)
    else if r.toLimit + h.length ≤ r.free then .write (r.wrapping h)
    else .waitSpace

/-- The placement is begun (R138, R142). -/
def startPlacement (p : Placement) (s : State) : State :=
  { s with rw := { s.rw with writer := .writing, written := 0, placement := some p } }

/-- The watermark is compared (R146): RING_HIGH is raised when the fill has reached it while the flag is set, and the
flag is then cleared. -/
def compareWatermark (s : State) : State :=
  if s.rw.armed && decide (s.rw.watermark ≤ s.rw.fill) then
    raiseMapped .ringHigh 0 { s with rw := { s.rw with armed := false } }
  else s

/-- The placement is published (R143): WRITE moves past it, the head record leaves the queue unless the placement was a
WRAP word alone, the writer is IDLE, and the watermark is compared. -/
def publish (p : Placement) (s : State) : State :=
  compareWatermark
    { s with
      rw := { s.rw with write := p.newWrite, written := 0, writer := .idle, placement := none }
      cq := { s.cq with records := if p.wrapAlone then s.cq.records else s.cq.records.tail } }

/-- The downstream request of a row (TABLE 9.1). -/
def forwardedRequest (tag : Fin 8) (r : Row) : Downstream :=
  { marker := .forwarded, tag := tag, kind := r.kind, address := r.address, size := r.size, beats := r.beats,
    data := match r.kind with
      | .write => r.writeData
      | .read => [] }

/-- The downstream request of a ring burst (TABLE 9.1). -/
def ringRequest (b : Burst) : Downstream :=
  { marker := .ring, tag := 0, kind := .write, address := b.address, size := .word, beats := b.words.length,
    data := b.words }

/-- A grant to the Forward Queue head (R35, R153): the tag leaves the queue, its row is ISSUED and its request is
transferred. -/
def grantForward (tag : Fin 8) (rest : List (Fin 8)) (passOver : Nat) (s : State) : State :=
  modifyRow tag (fun r => { r with state := .issued })
    { s with fq := rest, mpa := { port := .issuing (forwardedRequest tag s.rows[tag]), passOver := passOver } }

/-- A grant to the Ring Writer (R142, R153): its next burst is outstanding and the pass-over count becomes 0 (R154). -/
def grantRing (b : Burst) (s : State) : State :=
  { s with
    rw := { s.rw with
      outstanding := some b
      placement := s.rw.placement.map fun p => { p with bursts := p.bursts.tail } }
    mpa := { port := .issuing (ringRequest b), passOver := 0 } }

/-- The arbiter grants when the port is READY and a request stands (R153); between two requests R154 decides. -/
def arbitrate (s : State) : State :=
  match s.mpa.port with
  | .issuing _ => s
  | .ready =>
    match s.fq, s.rw.request with
    | [], none => s
    | [], some b => grantRing b s
    | tag :: rest, none => grantForward tag rest s.mpa.passOver s
    | tag :: rest, some b =>
      if s.cq.urgent || decide (Config.passOverMax ≤ s.mpa.passOver) then grantRing b s
      else grantForward tag rest (s.mpa.passOver + 1) s

end Sys2Proof.Machine
end

