-- ==== Sys2Proof/Machine/SessionOps.lean ====
section
/-! DEFINITION. Offers to the Capture Queue with what follows from them, the release of hold slots, and the stop and
level requests of the Session Controller (chapters 3, 5, 6 and 7). -/

namespace Sys2Proof.Machine

/-! ### Releases -/

/-- The release answers the master; the others forward (TABLE 2.3). -/
def Disposition.answers : Disposition → Bool
  | .relFail | .relAbsorb | .relSupply | .timeoutFail => true
  | .forwarded | .blocked | .relForward | .relReplace | .timeoutForward | .stopForward => false

/-- The status of a release that answers (TABLE 5.2, R93). -/
def Disposition.answerStatus : Disposition → RespStatus
  | .relAbsorb | .relSupply => .okay
  | .relFail | .timeoutFail | .forwarded | .blocked | .relForward | .relReplace | .timeoutForward | .stopForward =>
    .error

/-- The slot becomes FREE (R82). -/
def freeSlot (n : Fin 2) (s : State) : State := { s with hold := { s.hold with slots := s.hold.slots.set n none } }

/-- The row of a release that forwards (R89, R107): REPLACE puts the host's words in place of the write data; every
other disposition is the one the row's record is to carry. -/
def forwardFields (d : Disposition) (words : List Word) (r : Row) : Row :=
  if d = .relReplace then { r with writeData := words } else { r with carry := d }

/-- The row of a release that answers (R13, R90): no candidate is left, and SUPPLY fills the read data buffer. -/
def answerFields (d : Disposition) (words : List Word) (r : Row) : Row :=
  { r with late := 0#16, readBuf := if d = .relSupply then words else r.readBuf }

/-- A release of slot `n` with a disposition and the host's words (R88-R91, R93, R97). `make` deals with the record
that the release makes: a write's always, a read's when the release answers (R91). -/
def releaseSlot (make : HitRecord → State → State) (n : Fin 2) (d : Disposition) (words : List Word) (s : State) :
    State :=
  match s.hold.slots[n] with
  | none => s
  | some p =>
    let t := freeSlot n s
    let u := if d.answers then modifyRow p.tag (answerFields d words) t else t
    let v :=
      if u.rows[p.tag].owed && (decide (u.rows[p.tag].kind = .write) || d.answers) then
        clearDebt p.tag (make (buildHit u p.tag d false false) u)
      else u
    if d.answers then deliverRow p.tag d.answerStatus v
    else queueForward p.tag (modifyRow p.tag (forwardFields d words) v)

/-- Both slots are released with STOP_FORWARD, slot 0 before slot 1 (R97, R98, R99). -/
def releaseBoth (make : HitRecord → State → State) (s : State) : State :=
  releaseSlot make 1 .stopForward [] (releaseSlot make 0 .stopForward [] s)

/-! ### Leaving WATCHING -/

/-- Matching ends: every row's late candidate set is emptied, and the counters freeze (R13, R50, R53, R72). That an
ORPHAN row, of which R30 says that it shows the fields it had when ISSUED, is one of "every row" is the model's choice
(assumption 31). A tick's expiry that has not been taken is not made (TABLE 4.4). -/
def freeze (s : State) : State :=
  { mapRows (fun r => { r with late := 0#16 }) s with
    counters := mapVec (fun c => { c with tickPending := false }) s.counters }

/-- The session enters STOPPING (R50). The STOP record becomes DUE in `stopProgress`. -/
def enterStoppingWith (make : HitRecord → State → State) (reason : StopReason) (s : State) : State :=
  releaseBoth make (freeze { s with sc := { s.sc with session := .stopping, reason := reason } })

/-- The ring is finished (R140): RING_DONE is set, the queue is discarded, the cause is raised, and a stop request with
reason RING_DONE is taken. Records made by the releases are then discarded and counted as they are offered (R132). -/
def ringFinished (s : State) : State :=
  let t := raiseMapped .ringDone 0 (discardCounted { s with rw := { s.rw with ringDone := true } })
  if t.sc.session = .watching then enterStoppingWith (fun _ => countLost 1) .ringDone t else t

/-- The placement of the head record is formed (R138, R139, R140). -/
def formPlacement (s : State) : State :=
  match s.cq.records with
  | [] => s
  | h :: _ =>
    match s.rw.choose h with
    | .write p => startPlacement p s
    | .waitSpace => { s with rw := { s.rw with writer := .waitSpace } }
    | .finished => ringFinished s

/-- The Ring Writer takes the head record when R137's conditions hold. -/
def takeHead (s : State) : State :=
  if s.rw.writer = .idle ∧ s.sc.session.records = true ∧ s.rw.ringDone = false then formPlacement s else s

/-! ### Offers -/

/-- A droppable record is offered (R105, R122, R123): after RING_DONE it is discarded and counted (R132), else it is
placed, or dropped when it does not fit. -/
def offer (own : Bool) (b : RecordBody) (s : State) : State :=
  if s.rw.ringDone then countLost 1 s
  else
    match admitBundle own b s with
    | some t => takeHead t
    | none => dropRecord s

/-- A HIT record is made (R105): offered while the session makes records, else counted as lost (R54). -/
def makeHit (own : Bool) (h : HitRecord) (s : State) : State :=
  if s.sc.session.records then offer own (.hit h) s else countLost 1 s

/-! ### Requests to the Session Controller -/

/-- The session enters STOPPING (R50), the records of released writes being offered (R97). -/
def enterStopping (reason : StopReason) (s : State) : State := enterStoppingWith (makeHit false) reason s

/-- A stop request (R48): taken in WATCHING only. -/
def stopRequest (reason : StopReason) (s : State) : State :=
  if s.sc.session = .watching then enterStopping reason s else s

/-- A level request (R57, R58, R60): a change in WATCHING sets the level and, with level records on, makes a LEVEL
record. -/
def levelRequest (v : Fin 4) (cause : LevelCause) (index : Nat) (s : State) : State :=
  if s.sc.session = .watching ∧ v ≠ s.sc.level then
    let t := { s with sc := { s.sc with level := v } }
    if s.sc.levelRecords then offer false (.level s.sc.level v cause index) t else t
  else s

end Sys2Proof.Machine
end

