-- ==== Sys2Proof/Machine/CounterOps.lean ====
section
/-! DEFINITION. The event counters: inputs, expiry, cascades and expiry groups (chapter 4). -/

namespace Sys2Proof.Machine

/-- A counter expires (R76): it reloads from the pending constant if one is present, and a ONESHOT becomes IDLE. -/
def Counter.expire (c : Counter) : Counter :=
  { c with
    constant := c.pending.getD c.constant
    value := c.pending.getD c.constant
    pending := none
    state := match c.reload with
      | .reload => c.state
      | .oneshot => .idle
    tickPending := false }

/-- A hit notice starts the counter (TABLE 4.3). -/
def Counter.startedByHit (c : Counter) : Bool :=
  decide (c.mode = .time) && decide (c.start = .onHit) && decide (c.state = .waitStart)

/-- The inputs of an event at the counters: the counters that receive a hit notice, and whether the current tick's
expiries are taken. -/
structure CounterEvent where
  hits   : BitVec 4
  ticked : Bool
  deriving DecidableEq, Repr

/-- The counter counts one input of the event, given the lower counters that have expired in it (R73, R74, R75). -/
def Counter.counts (c : Counter) (ev : CounterEvent) (n : Fin 4) (expired : BitVec 4) : Bool :=
  decide (c.state = .counting) &&
    match c.mode, c.source with
    | .event, .entries => ev.hits.getLsbD n.val
    | .event, .cascade k => expired.getLsbD k.val
    | .time, _ => ev.ticked && c.tickPending

/-- Counter `n` takes the event; the result says whether it expires (R76). -/
def Counter.take (c : Counter) (ev : CounterEvent) (n : Fin 4) (expired : BitVec 4) : Counter × Bool :=
  if c.counts ev n expired then
    if c.value ≤ 1 then (c.expire, true) else ({ c with value := c.value - 1 }, false)
  else if ev.hits.getLsbD n.val && c.startedByHit then ({ c with state := .counting }, false)
  else (c, false)

/-- The counters take the event in ascending order, so that cascade notices travel upward (R75). -/
def takeEvent (ev : CounterEvent) (cs : Vector Counter 4) : Vector Counter 4 × BitVec 4 :=
  allCounters.foldl
    (fun acc (n : Fin 4) =>
      let r := (acc.1[n]).take ev n acc.2
      (acc.1.set n r.1, if r.2 then acc.2 ||| (1#4 <<< n.val) else acc.2))
    (cs, 0#4)

/-- The actions of one expiring counter (R77): its cause, its level request, its EXPIRY record. -/
def expiryActions (n : Fin 4) (s : State) : State :=
  let c := s.counters[n]
  let t := raise c.alert .expiry n.val s
  let u := match c.nextLevel with
    | some v => levelRequest v .counter n.val t
    | none => t
  if c.record then offer false (.expiry n) u else u

/-- The stop request of one expiring counter (R78). -/
def expiryStop (n : Fin 4) (s : State) : State :=
  if s.counters[n].stop then stopRequest (.counter n) s else s

/-- An event at the counters, taken only while WATCHING (R72): every counter of the expiry group is decremented and
reloaded, then the actions follow in ascending order, then the stop requests (R77, R78). -/
def counterEvent (ev : CounterEvent) (s : State) : State :=
  if s.sc.session = .watching then
    let r := takeEvent ev s.counters
    let t := { s with counters := r.1 }
    let u := (countersIn r.2).foldl (fun a n => expiryActions n a) t
    (countersIn r.2).foldl (fun a n => expiryStop n a) u
  else s

/-- A tick reaches the TIME counters that are COUNTING (R74): a value above 1 falls by one, and an expiry stands for
COUNTER_EXPIRY to take. -/
def Counter.tick (c : Counter) : Counter :=
  if c.mode = .time ∧ c.state = .counting then
    (if c.value ≤ 1 then { c with tickPending := true } else { c with value := c.value - 1 })
  else c

/-- A counter loaded at ARM (R71). -/
def Counter.load (c : Counter) : Counter :=
  { c with
    value := c.constant
    pending := none
    state := if c.mode = .time ∧ c.start = .onHit then .waitStart else .counting
    tickPending := false }

/-- A counter at RESTART (R72). -/
def Counter.rest (c : Counter) : Counter :=
  { c with value := c.constant, pending := none, state := .idle, tickPending := false }

end Sys2Proof.Machine
end

