-- ==== Sys2Proof/Machine/PathOps.lean ====
section
/-! DEFINITION. The early and late match, the decision, the gates of the Request Port, and what follows at the end of a
step from the conditions it made hold (chapters 1, 2, 3, 5 and 7). -/

namespace Sys2Proof.Machine

/-! ### The early match -/

/-- The larger data option (R17). -/
def DataOption.max (a b : DataOption) : DataOption := if a.code < b.code then b else a

/-- The merged capture option of the CAPTURE entries of a set, from a previous value (R15, R17). -/
def mergedOption (entries : Vector Entry 16) (set : BitVec 16) (previous : DataOption) : DataOption :=
  (entriesIn set).foldl (fun o n => if entries[n].capture then o.max entries[n].dataOption else o) previous

/-- Some CAPTURE entry of the set (R17). -/
def owesRecord (entries : Vector Entry 16) (set : BitVec 16) : Bool :=
  (entriesIn set).any fun n => entries[n].capture

/-- Some CAPTURE entry of the set is lossless (R17). -/
def wantsLossless (entries : Vector Entry 16) (set : BitVec 16) : Bool :=
  (entriesIn set).any fun n => entries[n].capture && entries[n].lossless

/-- The causes of a set: each entry with an alert class, in ascending order (R18). -/
def alertsOf (entries : Vector Entry 16) (set : BitVec 16) : List (Fin 16 × Fin 4) :=
  (entriesIn set).filterMap fun n => entries[n].alert.map fun c => (n, c)

/-- The next level of the lowest-numbered entry that has one (R20). -/
def levelOf (entries : Vector Entry 16) (set : BitVec 16) : Option (Fin 16 × Fin 4) :=
  (entriesIn set).findSome? fun n => entries[n].nextLevel.map fun v => (n, v)

/-- The counters linked from a set (R19). -/
def linksOf (entries : Vector Entry 16) (set : BitVec 16) : BitVec 4 :=
  counterSet fun k => (entriesIn set).any fun n => decide (entries[n].link = some k)

/-- The lowest-numbered entry of a set with stop yes (R20). -/
def stopOf (entries : Vector Entry 16) (set : BitVec 16) : Option (Fin 16) :=
  (entriesIn set).find? fun n => entries[n].stop

/-- The disposition formed from the early hit set (R16). -/
def verdictOf (entries : Vector Entry 16) (set : BitVec 16) : Verdict :=
  match (entriesIn set).find? fun n => decide (entries[n].dispose = .block) with
  | some n => .block entries[n].blockStatus
  | none =>
    match (entriesIn set).find? fun n => decide (entries[n].dispose = .hold) with
    | some n => .hold n
    | none => .forward

/-- The early hit set E (R8, R11). -/
def earlySet (entries : Vector Entry 16) (r : Request) (level : Fin 4) : BitVec 16 :=
  entrySet fun n => entries[n].hitsEarly r level

/-- The late candidate set C (R12). -/
def candidateSet (entries : Vector Entry 16) (r : Request) (level : Fin 4) : BitVec 16 :=
  entrySet fun n => entries[n].candidate r level

/-- The combined outcome of an early hit set, formed at the match (R7, R16, R20), the causes with the classes that the
entries have then (TABLE 1.5; assumption 12). -/
def outcomeOf (entries : Vector Entry 16) (set : BitVec 16) : MatchOutcome :=
  { early := set
    verdict := verdictOf entries set
    alerts := alertsOf entries set
    level := levelOf entries set
    notices := linksOf entries set
    stop := stopOf entries set }

/-- The row of a request at its taking (R33 step 1). -/
def takenRow (s : State) (r : Request) : Row :=
  { Row.empty with
    state := .deciding, kind := r.kind, address := r.address, size := requestSize r, beats := r.beats,
    writeData := match r.kind with
      | .write => r.data
      | .read => [],
    arrivalLevel := s.sc.level, takingTime := s.tb.ticks }

/-- The row of a request matched at its taking (R7, R12, R17). -/
def matchedRow (s : State) (r : Request) : Row :=
  let e := earlySet s.entries r s.sc.level
  { takenRow s r with
    early := e, late := candidateSet s.entries r s.sc.level, hits := e,
    option := mergedOption s.entries e .none, owed := owesRecord s.entries e, lossless := wantsLossless s.entries e }

/-! ### Handing on the actions of hits -/

/-- The hit totals of a set rise by one each, saturating (R21). -/
def countHits (set : BitVec 16) (s : State) : State :=
  { s with totals := (entriesIn set).foldl (fun v (n : Fin 16) => v.set n (satAdd v[n] 1)) s.totals }

/-- ENTRY_HIT causes are raised in order (R18). -/
def raiseHits (alerts : List (Fin 16 × Fin 4)) (s : State) : State :=
  alerts.foldl (fun a x => raise (some x.2) .entryHit x.1.val a) s

/-- The level request of a hit set, if it has one (R15, R20). -/
def requestLevel (level : Option (Fin 16 × Fin 4)) (s : State) : State :=
  match level with
  | some x => levelRequest x.2 .entry x.1.val s
  | none => s

/-- The stop request of a hit set, if it has one (R15, R20). -/
def requestStop (stop : Option (Fin 16)) (s : State) : State :=
  match stop with
  | some n => stopRequest (.entry n) s
  | none => s

/-- Counter notices are sent to `notices`, which join the row's set of counters already notified (R19, R73). -/
def notify (tag : Fin 8) (notices : BitVec 4) (s : State) : State :=
  counterEvent { hits := notices, ticked := false }
    (modifyRow tag (fun r => { r with notified := r.notified ||| notices }) s)

/-- Steps 1 to 4 of R20. -/
def handOn (tag : Fin 8) (o : MatchOutcome) (s : State) : State :=
  notify tag o.notices (requestLevel o.level (raiseHits o.alerts (countHits o.early s)))

/-! ### The decision -/

/-- A record owed by the row of a write is made at its decision (R34, R108); a read's is not. -/
def writeRecord (tag : Fin 8) (d : Disposition) (refused : Bool) (s : State) : State :=
  if s.rows[tag].owed && decide (s.rows[tag].kind = .write) then
    clearDebt tag (makeHit true (buildHit s tag d false refused) s)
  else s

/-- A transaction is forwarded at its decision (R34, R85, R86): its row carries the disposition and the HOLD_REFUSED
mark, a write's record is made, and its tag joins the Forward Queue. That the record is offered before the tag joins
is the model's choice (assumption 34); it shows where the offer sets RING_DONE. -/
def decideForward (tag : Fin 8) (d : Disposition) (refused : Bool) (s : State) : State :=
  queueForward tag
    (writeRecord tag d refused (modifyRow tag (fun r => { r with carry := d, holdRefused := refused }) s))

/-- A BLOCK decision (R80, R81): zero words for a read answered OKAY, the record with BLOCKED, the response, the row
EMPTY. -/
def decideBlock (tag : Fin 8) (status : RespStatus) (s : State) : State :=
  let t := modifyRow tag
    (fun r => { r with
      late := 0#16
      readBuf := if r.kind = .read ∧ status = .okay then List.replicate r.beats 0#32 else [] }) s
  let u := if t.rows[tag].owed then clearDebt tag (makeHit true (buildHit t tag .blocked false false) t) else t
  deliverRow tag status u

/-- The ticket of a park into slot `n` (R83): the counter's next value, or the one after when the other slot holds
it. -/
def nextTicket (h : HoldUnit) (n : Fin 2) : Byte :=
  let t := h.ticket + 1#8
  match h.slots[1 - n] with
  | some p => if p.ticket = t then t + 1#8 else t
  | none => t

/-- A transaction is parked in slot `n` (R84). -/
def park (tag : Fin 8) (n : Fin 2) (s : State) : State :=
  let r := s.rows[tag]
  let ticket := nextTicket s.hold n
  let p : Parked :=
    { tag := tag, ticket := ticket, parkTime := s.tb.ticks, kind := r.kind, address := r.address, size := r.size,
      beats := r.beats, writeData := r.writeData }
  raise s.hold.holdClass .parked n.val
    (modifyRow tag (fun r => { r with state := .parked })
      { s with hold := { s.hold with slots := s.hold.slots.set n (some p), ticket := ticket } })

/-- A HOLD attempt (R84, R85, R86). -/
def decideHold (tag : Fin 8) (entry : Fin 16) (s : State) : State :=
  if s.sc.session = .watching then
    match s.hold.freeSlot with
    | some n => park tag n s
    | none => raiseMapped .holdRefused entry.val (decideForward tag .forwarded true s)
  else decideForward tag .stopForward false s

/-- The disposition is carried out (R34). -/
def carryOut (tag : Fin 8) (v : Verdict) (s : State) : State :=
  match v with
  | .forward => decideForward tag .forwarded false s
  | .block status => decideBlock tag status s
  | .hold entry => decideHold tag entry s

/-- The Request Port has no request in hand, and no claim stands. -/
def releasePort (s : State) : State :=
  { s with rqp := { s.rqp with acceptance := .idle }, cq := { s.cq with claim := none } }

/-- The decision (R20, R34): steps 1 to 4 of R20, the disposition, step 5. -/
def decideRequest (tag : Fin 8) (o : MatchOutcome) (s : State) : State :=
  releasePort (requestStop o.stop (carryOut tag o.verdict (handOn tag o s)))

/-! ### The gates -/

/-- The claim size of a write (R126): its HIT record's 4 + d words and the bundle's three. -/
def claimSize (r : Row) : Nat := 4 + (recordData r).length + Config.bundleExtra

/-- The write meets the LOSSLESS gate (R126, R129). -/
def meetsLosslessGate (s : State) (tag : Fin 8) (v : Verdict) : Bool :=
  decide (s.rows[tag].kind = .write) && s.rows[tag].owed && s.rows[tag].lossless && s.mayWait &&
    match v with
    | .hold _ => false
    | .forward | .block _ => true

/-- The write passes the LOSSLESS gate (R126): the claim is set and the decision is carried out. -/
def passGate (tag : Fin 8) (o : MatchOutcome) (s : State) : State :=
  decideRequest tag o { s with cq := { s.cq with claim := some (claimSize s.rows[tag]) } }

/-- A taken request goes to its decision, through the LOSSLESS gate if it meets it (R34, R126). -/
def losslessGate (tag : Fin 8) (o : MatchOutcome) (s : State) : State :=
  if meetsLosslessGate s tag o.verdict then
    if claimSize s.rows[tag] ≤ s.cq.room false then passGate tag o s
    else { s with rqp := { s.rqp with acceptance := .waitLossless tag s.tb.ticks o } }
  else decideRequest tag o s

/-- The request is taken (R33): matched when the session is WATCHING, else in pass-through. -/
def takeRequest (r : Request) (s : State) : State :=
  if s.sc.session = .watching then
    losslessGate r.tag (outcomeOf s.entries (earlySet s.entries r s.sc.level))
      (modifyRow r.tag (fun _ => matchedRow s r) s)
  else losslessGate r.tag .passThrough (modifyRow r.tag (fun _ => takenRow s r) s)

/-- The request meets the CONFLICT gate (R95). -/
def conflictGate (r : Request) (s : State) : State :=
  if s.covered r.address then { s with rqp := { s.rqp with acceptance := .waitConflict r } }
  else takeRequest r { s with rqp := { s.rqp with acceptance := .idle } }

/-- A request is read and meets the protocol check and then the ORPHAN gate (R26, R27, R32). -/
def readRequest (r : Request) (s : State) : State :=
  if s.rows[r.tag].state.live then raiseMapped .portError r.tag.val s
  else if malformed r then
    raiseMapped .portError r.tag.val (respond { status := .error, tag := r.tag, data := [] } s)
  else if s.rows[r.tag].state = .orphan then { s with rqp := { s.rqp with acceptance := .waitOrphan r } }
  else conflictGate r s

/-- The oldest presented request is read, if the Request Port may read one (R31). -/
def readOldest (s : State) : State :=
  match s.mayRead, s.rqp.presented with
  | true, r :: rest => readRequest r { s with rqp := { s.rqp with presented := rest } }
  | _, _ => s

/-! ### Ends of lossless waits -/

/-- A RESPONDING row whose record is counted as lost: its response goes upstream (R53, R129). -/
def loseWaitingRow (tag : Fin 8) (s : State) : State :=
  match s.rows[tag].state, s.rows[tag].wait with
  | .responding, some w => deliverRow tag w.status (countLost 1 s)
  | _, _ => s

/-- A write at the LOSSLESS gate whose record is counted as lost: it is decided (R53, R129). -/
def loseWaitingWrite (s : State) : State :=
  match s.rqp.acceptance with
  | .waitLossless tag _ o =>
    decideRequest tag o (clearDebt tag (if s.rows[tag].owed then countLost 1 s else s))
  | .idle | .waitOrphan _ | .waitConflict _ => s

/-- Lossless waits end with FAULT and RING_DONE (R53, R129, R132): RESPONDING rows by ascending tag, then the write at
the gate, an order that is the model's choice (assumptions 8, 35). -/
def endLosslessWaits (s : State) : State :=
  if s.mayWait then s else loseWaitingWrite (allTags.foldl (fun a t => loseWaitingRow t a) s)

/-! ### What follows at the end of a step -/

/-- The STOP record is offered (R51, R112): its absolute time is the present one. -/
def offerStop (s : State) : State :=
  if s.rw.ringDone then countLost 1 { s with sc := { s.sc with stopRecord := .placed } }
  else
    match admitBundle false (.stop s.tb.ticks s.sc.reason) s with
    | some t => takeHead { t with sc := { t.sc with stopRecord := .placed } }
    | none => { s with sc := { s.sc with stopRecord := .due } }

/-- In STOPPING the STOP record becomes DUE once no row owes a record, and is offered at once; one that waits is
discarded by RING_DONE (R50, R51, R132). -/
def stopProgress (s : State) : State :=
  if s.sc.session = .stopping then
    match s.sc.stopRecord with
    | .notDue => if s.someOwes then s else offerStop s
    | .due => if s.rw.ringDone then offerStop s else s
    | .placed => s
  else s

/-- A request in the ORPHAN or CONFLICT wait goes on when its condition no longer holds (R32, R96). -/
def resumeWait (s : State) : State :=
  match s.rqp.acceptance with
  | .waitOrphan r => if s.rows[r.tag].state = .orphan then s else conflictGate r s
  | .waitConflict r => conflictGate r s
  | .idle | .waitLossless _ _ _ => s

/-- The session enters STOPPED when R52's four conditions hold. -/
def stopComplete (s : State) : State :=
  if s.sc.session = .stopping ∧ s.someOwes = false ∧ s.sc.stopRecord = .placed ∧ s.cq.records = [] ∧
      s.rw.isIdle = true then
    raiseMapped .sessionStopped 0 { s with sc := { s.sc with session := .stopped } }
  else s

/-- The conditions that a step can make hold are acted on at its end: ends of lossless waits, the STOP record, the
request that waits, the end of STOPPING, and a grant (assumption 7). -/
def finish (s : State) : State :=
  arbitrate (stopComplete (stopProgress (endLosslessWaits (resumeWait (stopProgress (endLosslessWaits s))))))

/-! ### FAULT -/

/-- A STOP record that was due and not yet placed is abandoned (R53). -/
def abandonStop (s : State) : State :=
  if s.sc.stopRecord = .due then countLost 1 { s with sc := { s.sc with stopRecord := .placed } } else s

/-- The session enters FAULT (R53). -/
def enterFault (s : State) : State :=
  if s.sc.session.records then
    let reason := if s.sc.session = .watching then .fault else s.sc.reason
    let t := freeze { s with sc := { s.sc with session := .fault, reason := reason } }
    let u := endLosslessWaits (discardCounted (releaseBoth (fun _ => countLost 1) t))
    raise (some 0) .ringFault 0 (abandonStop u)
  else s

/-! ### The late match and read responses -/

/-- The late hit set L (R14). -/
def lateSet (s : State) (tag : Fin 8) : BitVec 16 :=
  let r := s.rows[tag]
  entrySet fun n =>
    r.late.getLsbD n.val && decide (s.sc.session = .watching) && s.entries[n].enabled &&
      match s.entries[n].pattern with
      | some p => p.matchesAny (laneMask r.address r.beats r.size) r.readBuf
      | none => false

/-- The row after a late hit (R15 steps 1 and 3); the candidate set is emptied (R14). -/
def lateFields (entries : Vector Entry 16) (l : BitVec 16) (r : Row) : Row :=
  { r with
    late := 0#16
    hits := r.hits ||| l
    option := mergedOption entries l r.option
    owed := r.owed || owesRecord entries l
    lossless := r.lossless || wantsLossless entries l }

/-- The late match and what it hands on (R14, R15). -/
def lateMatch (tag : Fin 8) (s : State) : State :=
  let l := lateSet s tag
  let fresh := linksOf s.entries l &&& ~~~s.rows[tag].notified
  let t := countHits l (modifyRow tag (lateFields s.entries l) s)
  let u := requestLevel (levelOf s.entries l) (raiseHits (alertsOf s.entries l) t)
  requestStop (stopOf s.entries l) (notify tag fresh u)

/-- The row waits in RESPONDING with its built record and its response (R127, R128). -/
def startWait (tag : Fin 8) (h : HitRecord) (status : RespStatus) (s : State) : State :=
  modifyRow tag
    (fun r => { r with state := .responding, wait := some { record := h, status := status, since := s.tb.ticks } }) s

/-- The record decision and delivery of a read whose response has reached its row (R37 steps 2 and 3, R38, R54, R91,
R127). -/
def settleRead (tag : Fin 8) (status : RespStatus) (s : State) : State :=
  let r := s.rows[tag]
  if r.owed then
    let h := buildHit s tag r.carry (decide (status = .error)) r.holdRefused
    if s.mayWait then
      match admitBundle false (.hit h) s with
      | some t => deliverRow tag status (clearDebt tag (takeHead t))
      | none =>
        if r.lossless && decide (r.carry = .forwarded) then startWait tag h status s
        else deliverRow tag status (clearDebt tag (dropRecord s))
    else deliverRow tag status (clearDebt tag (countLost 1 s))
  else deliverRow tag status s

/-- The response to a forwarded READ whose row is ISSUED (R37, R38, R151): fewer words than beats count as ERROR. -/
def readResponse (tag : Fin 8) (status : RespStatus) (words : List Word) (s : State) : State :=
  let beats := s.rows[tag].beats
  if status = .okay ∧ beats ≤ words.length then
    settleRead tag .okay (lateMatch tag (modifyRow tag (fun r => { r with readBuf := words.take beats }) s))
  else settleRead tag .error (modifyRow tag (fun r => { r with late := 0#16, readBuf := [] }) s)

/-- A FORWARDED response by the state of its row (TABLE 9.2). One that finds its row neither ISSUED nor ORPHAN is
dropped (R152). -/
def forwardedResponse (tag : Fin 8) (status : RespStatus) (words : List Word) (s : State) : State :=
  match s.rows[tag].state with
  | .issued =>
    match s.rows[tag].kind with
    | .write => finish (deliverRow tag status s)
    | .read => finish (readResponse tag status words s)
  | .orphan => finish (modifyRow tag (fun _ => Row.empty) s)
  | .empty | .deciding | .queued | .parked | .responding => s

/-- A ring burst is answered OKAY while WRITING (R142, R143): the written count rises, and the placement is published
when no burst is left. -/
def burstDone (b : Burst) (s : State) : State :=
  let t := { s with rw := { s.rw with outstanding := none, written := s.rw.written + b.words.length } }
  match s.rw.placement with
  | some p => if p.bursts = [] then takeHead (publish p t) else t
  | none => t

/-- A ring burst is answered ERROR while WRITING (R144): the placement ends unpublished and the session enters
FAULT. -/
def burstFailed (s : State) : State :=
  enterFault
    { s with rw := { s.rw with outstanding := none, writer := .idle, written := 0, placement := none } }

/-- A RING response by the state of the Ring Writer (TABLE 9.2). One that finds no burst outstanding is dropped
(R152). -/
def ringResponse (status : RespStatus) (s : State) : State :=
  match s.rw.outstanding with
  | none => s
  | some b =>
    match s.rw.writer, status with
    | .writing, .okay => finish (burstDone b s)
    | .writing, .error => finish (burstFailed s)
    | .abandoning, _ | .idle, _ | .waitSpace, _ =>
      finish (takeHead { s with rw := { s.rw with outstanding := none, writer := .idle } })

end Sys2Proof.Machine
end

