-- ==== Sys2Proof/Machine/EventOps.lean ====
section
/-! DEFINITION. The events of the block's own that fall due (a passed gate, room for a waiting record, an expiry, a
timeout, the autonomous GAP), each with no effect while it is not due (assumption 2), and the tick (R63, R64). -/

namespace Sys2Proof.Machine

/-! ### Room for what waits -/

/-- The write at the LOSSLESS gate passes when the room has reached its claim size (R126). -/
def gatePass (s : State) : State :=
  match s.rqp.acceptance with
  | .waitLossless tag _ o =>
    if s.mayWait && decide (claimSize s.rows[tag] ≤ s.cq.room false) then
      finish (passGate tag o { s with rqp := { s.rqp with acceptance := .idle } })
    else s
  | .idle | .waitOrphan _ | .waitConflict _ => s

/-- The waiting record of a RESPONDING row is offered again, and if it is placed the response goes upstream (R125,
R127). -/
def placeWaiting (tag : Fin 8) (s : State) : State :=
  match s.rows[tag].state, s.rows[tag].wait with
  | .responding, some w =>
    if s.mayWait then
      match admitBundle false (.hit w.record) s with
      | some t => finish (deliverRow tag w.status (clearDebt tag (takeHead t)))
      | none => s
    else s
  | _, _ => s

/-- The STOP record that waits is offered again (R124). -/
def reofferStop (s : State) : State :=
  if s.sc.session = .stopping ∧ s.sc.stopRecord = .due then finish (offerStop s) else s

/-! ### Stall limits -/

/-- A lossless wait of the row of `tag` ends at the stall limit (R128 steps 1 to 3, and the row's debt). -/
def stallDrop (tag : Fin 8) (s : State) : State :=
  let t := dropRecord s
  clearDebt tag
    (raiseMapped .losslessTimeout tag.val { t with rbl := { t.rbl with losslessSeen := true } })

/-- The write at the LOSSLESS gate reaches the stall limit: it is decided with no claim and no HIT record (R128). -/
def stallWrite (tag : Fin 8) (s : State) : State :=
  match s.rqp.acceptance with
  | .waitLossless waiting since o =>
    if waiting = tag ∧ s.stallDue since = true then finish (decideRequest tag o (stallDrop tag s)) else s
  | .idle | .waitOrphan _ | .waitConflict _ => s

/-- The RESPONDING row reaches the stall limit: its response goes upstream (R128). -/
def stallRead (tag : Fin 8) (s : State) : State :=
  match s.rows[tag].state, s.rows[tag].wait with
  | .responding, some w => if s.stallDue w.since then finish (deliverRow tag w.status (stallDrop tag s)) else s
  | _, _ => s

/-- The lossless wait of a tag, a write's or a read's, reaches the stall limit (R128). A tag has at most one. -/
def stallTimeout (tag : Fin 8) (s : State) : State :=
  match s.rows[tag].state with
  | .responding => stallRead tag s
  | .empty | .deciding | .queued | .issued | .parked | .orphan => stallWrite tag s

/-! ### Expiries, hold timeouts, the autonomous GAP -/

/-- The expiries that the current tick made are taken as one expiry group (R74, R76, R77). -/
def expireCounters (s : State) : State :=
  if s.expiryDue then finish (counterEvent { hits := 0#4, ticked := true } s) else s

/-- The disposition that the timeout disposition gives (R93). -/
def timeoutDisposition (h : HoldUnit) : Disposition := if h.timeoutFail then .timeoutFail else .timeoutForward

/-- A slot whose age has reached the hold limit is released, and HOLD_TIMEOUT is raised (R93). -/
def holdExpire (n : Fin 2) (s : State) : State :=
  if s.holdDue n then
    let t := releaseSlot (makeHit false) n (timeoutDisposition s.hold) [] s
    finish (raise t.hold.holdClass .holdTimeout n.val t)
  else s

/-- The autonomous GAP (R117): placed alone if the queue has room for one word, which moves the reference time by 2^31;
otherwise time-lost is set. After RING_DONE it is discarded uncounted (R132, assumption 17). -/
def autonomousGap (s : State) : State :=
  if s.gapDue && !s.rw.ringDone then
    if 1 ≤ s.cq.room false then
      let t := append [gapRecord Config.autoGapCount] s
      finish (takeHead { t with rbl := { t.rbl with refTime := t.rbl.refTime + Config.autoGapAge } })
    else { s with rbl := { s.rbl with timeLost := true } }
  else s

/-! ### The tick -/

/-- What is still due is taken before the next tick, in a fixed order (assumption 3): room for what waits, the
autonomous GAP, expiries, hold timeouts by slot, stall limits by tag. -/
def settle (s : State) : State :=
  let a := reofferStop (allTags.foldl (fun acc t => placeWaiting t acc) (gatePass s))
  let b := holdExpire 1 (holdExpire 0 (expireCounters (autonomousGap a)))
  allTags.foldl (fun acc t => stallTimeout t acc) b

/-- The tick count rises by one, the prescaler begins a new period, and the TIME counters count while WATCHING (R63,
R72, R74). -/
def countTick (s : State) : State :=
  { s with
    tb := { s.tb with ticks := s.tb.ticks + 1#32, phase := 0 }
    counters := if s.sc.session = .watching then mapVec Counter.tick s.counters else s.counters }

/-- A tick (R63). While RESET is asserted the count holds (R172). -/
def tick (s : State) : State := if s.lines.reset then s else countTick (settle s)

/-- One cycle of CLK (R63): the prescaler phase rises, and a full period of the divisor is a tick. -/
def clkCycle (s : State) : State :=
  if s.lines.reset then s
  else if s.tb.prescale.divisor ≤ s.tb.phase + 1 then tick s
  else { s with tb := { s.tb with phase := s.tb.phase + 1 } }

end Sys2Proof.Machine
end

