-- ==== Sys2Proof/Machine/ResetOps.lean ====
section
/-! DEFINITION. Path reset, device reset, and the start and end of frames (R42, R44, R165, R166, R172, R173). -/

namespace Sys2Proof.Machine

/-! ### Path reset -/

/-- A row at a path reset (TABLE 2.3, R42): a row at memory turns ORPHAN and owes nothing, every other live row is
freed. -/
def Row.pathReset (r : Row) : Row :=
  match r.state with
  | .deciding | .queued | .parked | .responding => Row.empty
  | .issued => { r with state := .orphan, owed := false }
  | .empty | .orphan => r

/-- The effects of a path reset on the path and the slots (R42, R100). -/
def clearPath (s : State) : State :=
  { mapRows Row.pathReset s with
    rqp := { s.rqp with acceptance := .idle, presented := [], ready := [] }
    fq := []
    hold := { s.hold with slots := Vector.replicate 2 none }
    cq := { s.cq with claim := none }
    lines := { s.lines with prst := true } }

/-- A path reset is taken on each assertion of PRST (R42). -/
def pathReset (s : State) : State :=
  if s.lines.prst then s else finish (raiseMapped .pathReset 0 (clearPath s))

/-- PRST is deasserted: the Request Port handles the presented requests again (R42, assumption 5). -/
def endPathReset (s : State) : State :=
  if s.lines.prst then finish (readOldest { s with lines := { s.lines with prst := false } }) else s

/-! ### Device reset -/

/-- The request that the Request Port holds untaken, which stays on the upstream bus through a device reset (R44). -/
def Acceptance.untaken : Acceptance → List Request
  | .waitOrphan r | .waitConflict r => [r]
  | .idle | .waitLossless _ _ _ => []

/-- A device reset (R172): every block takes its reset values; the requests on the bus and the lines outside stay. -/
def resetPart (s : State) : State :=
  { State.reset with
    rqp := { State.reset.rqp with presented := s.rqp.acceptance.untaken ++ s.rqp.presented }
    lines := { s.lines with reset := true }
    choices := s.choices
    pending := s.pending }

/-- RESET is released (R172): the Request Port handles the presented requests (R44, assumption 5). -/
def releaseReset (s : State) : State :=
  if s.lines.reset then finish (readOldest { s with lines := { s.lines with reset := false } }) else s

/-! ### Frames -/

/-- CS is asserted (R165). While RESET is asserted no frame begins (R172). -/
def assertCs (s : State) : State :=
  if s.lines.cs then s
  else
    let t := { s with lines := { s.lines with cs := true } }
    if s.lines.reset then t else { t with mgp := { frame := .receiving, byteCount := 0, answer := [] } }

/-- CS is deasserted while the frame state is `f`: the port is IDLE, and SDO has no byte to give (R165, R166). -/
def deassertCs (f : FrameState) (s : State) : State :=
  if s.mgp.frame = f ∧ s.lines.cs = true then
    { s with lines := { s.lines with cs := false }, mgp := { frame := .idle, byteCount := 0, answer := [] } }
  else s

/-- A command is taken when its last argument byte has been received (R166): all its effects are made, and its status
and results are formed. `args` is the number of argument bytes. Outside RECEIVING no command is taken (assumption 6). -/
def takeCommand (args : Nat) (act : State → State × List Byte) (s : State) : State :=
  if s.mgp.frame = .receiving then
    { (act s).1 with mgp := { frame := .answering, byteCount := 1 + args, answer := (act s).2 } }
  else s

/-- The byte that SDO shifts out at place `n` of the answer, 0 the status (R165, R167, TABLE 11.2). -/
def State.sdo (s : State) (n : Nat) : Byte := s.mgp.answer.getD n 0xFF#8

/-- A command refused with a status changes nothing (R167). -/
def refuse (status : Status) (s : State) : State × List Byte := (s, [status.code])

/-- A command taken with status OK and no result bytes. -/
def accept (s : State) : State × List Byte := (s, [Status.ok.code])

/-- A command that only returns bytes (R170). -/
def answerWith (results : State → List Byte) (s : State) : State × List Byte := (s, Status.ok.code :: results s)

end Sys2Proof.Machine
end

