-- ==== Sys2Proof/Machine/Traffic.lean ====
section
/-! DEFINITION. The meanings of the traffic commands: requests, waits for room, responses, the Memory Port. -/

namespace Sys2Proof.Machine

/-- The outcome of a command. -/
abbrev Out := Host.Outcome State Fault Refusal

/-- REQUEST (R31): the newly presented request, if any, joins the presented ones, and the Request Port reads the oldest
if it is IDLE (assumption 4). -/
def execRequest (r : Option Request) (s : State) : Out :=
  let t := { s with rqp := { s.rqp with presented := s.rqp.presented ++ r.toList } }
  .next (if t.mayRead then finish (readOldest t) else t)

/-- LOSSLESS_GATE_PASS (R126). -/
def execLosslessGatePass (s : State) : Out := .next (gatePass s)

/-- RESPONDING_RECORD_PLACED (R127). -/
def execRespondingRecordPlaced (tag : Fin 8) (s : State) : Out := .next (placeWaiting tag s)

/-- STOP_RECORD_REOFFER (R124). -/
def execStopRecordReoffer (s : State) : Out := .next (reofferStop s)

/-- LOSSLESS_STALL_TIMEOUT (R128). -/
def execLosslessStallTimeout (tag : Fin 8) (s : State) : Out := .next (stallTimeout tag s)

/-- RESPONSE_DELIVERY (R39): the ready response at place `n` goes upstream, once (assumption 15). -/
def execResponseDelivery (n : Nat) (s : State) : Out :=
  .next
    (match s.rqp.ready[n]? with
     | some r => { s with rqp := { s.rqp with ready := s.rqp.ready.eraseIdx n, upstream := some r } }
     | none => s)

/-- MEMORY_RESPONSE (R151, TABLE 9.2). -/
def execMemoryResponse (m : MemResponse) (s : State) : Out :=
  .next
    (match m.marker with
     | .forwarded => forwardedResponse m.tag m.status m.data s
     | .ring => ringResponse m.status s)

/-- PORT_RETURN_TO_READY (R149): the memory side has accepted the request, and the arbiter grants (R153). -/
def execPortReturnToReady (s : State) : Out :=
  .next
    (match s.mpa.port with
     | .issuing _ => arbitrate { s with mpa := { s.mpa with port := .ready } }
     | .ready => s)

end Sys2Proof.Machine
end

