-- ==== Sys2Proof/Machine/LineEvents.lean ====
section
/-! DEFINITION. The meanings of the events on the lines PRST, RESET and CS and of the supplies. -/

namespace Sys2Proof.Machine

/-- PATH_RESET (R42). -/
def execPathReset (s : State) : Out := .next (pathReset s)

/-- PRST_DEASSERTED (R42). -/
def execPrstDeasserted (s : State) : Out := .next (endPathReset s)

/-- DEVICE_RESET (R172): RESET is asserted. -/
def execDeviceReset (s : State) : Out := .next (resetPart s)

/-- RESET_RELEASE (R172). -/
def execResetRelease (s : State) : Out := .next (releaseReset s)

/-- POWER_ON (R173): a device reset, which ends as a release of RESET does (assumption 11). -/
def execPowerOn (s : State) : Out := .next (resetPart s)

/-- TRUNCATED_FRAME (R166): CS deasserted while RECEIVING; nothing is executed. -/
def execTruncatedFrame (s : State) : Out := .next (deassertCs .receiving s)

/-- FRAME_END (R166): CS deasserted while ANSWERING. -/
def execFrameEnd (s : State) : Out := .next (deassertCs .answering s)

/-- FRAME_START (R165): CS asserted. -/
def execFrameStart (s : State) : Out := .next (assertCs s)

/-- CS_DEASSERTED_AFTER_RESET (R172): CS deasserted while no frame stands, after it was asserted through the release of
RESET. -/
def execCsDeassertedAfterReset (s : State) : Out := .next (deassertCs .idle s)

end Sys2Proof.Machine
end

