-- ==== Sys2Proof/Machine/Reads.lean ====
section
/-! DEFINITION. The meanings of STATUS, of the GETs, and of command bytes and item codes that name nothing (R168 to
R170). -/

namespace Sys2Proof.Machine

/-- UNKNOWN_COMMAND (R168). A byte that does name a command is not this command (assumption 28). -/
def execUnknownCommand (code : Byte) (s : State) : Out :=
  .next (if namesCommand code then s else takeCommand 0 (refuse .unknown) s)

/-- STATUS (R169). -/
def execStatus (s : State) : Out := .next (takeCommand 0 (answerWith statusBytes) s)

/-- GET SESSION (R62). -/
def execGetSession (s : State) : Out := .next (takeCommand 1 (answerWith sessionBytes) s)

/-- GET RING (R135). -/
def execGetRing (s : State) : Out := .next (takeCommand 1 (answerWith fun t => ringBytes t.rw) s)

/-- GET HOLD (R101). -/
def execGetHold (s : State) : Out := .next (takeCommand 1 (answerWith fun t => holdBytes t.hold) s)

/-- GET TIMEBASE (R65). -/
def execGetTimebase (s : State) : Out := .next (takeCommand 1 (answerWith fun t => timebaseBytes t.tb) s)

/-- GET ALERTMAP (R158). -/
def execGetAlertmap (s : State) : Out := .next (takeCommand 1 (answerWith fun t => alertMapBytes t.au.map) s)

/-- GET TOTALS (R21). -/
def execGetTotals (s : State) : Out := .next (takeCommand 1 (answerWith fun t => totalsBytes t.totals) s)

/-- An entry number in an argument byte (R6): none above 15. -/
def entryNumber (n : Byte) : Option (Fin 16) := if h : n.toNat < 16 then some ⟨n.toNat, h⟩ else none

/-- GET ENTRY n (R6). -/
def execGetEntry (n : Byte) (s : State) : Out :=
  .next
    (takeCommand 1
      (match entryNumber n with
       | some k => answerWith fun t => entryBytes t.entries[k]
       | none => refuse .badarg) s)

/-- GET COUNTER n (R70). -/
def execGetCounter (n : Fin 4) (s : State) : Out :=
  .next (takeCommand 1 (answerWith fun t => counterBytes t.counters[n]) s)

/-- GET SLOT n (R102). -/
def execGetSlot (n : Fin 2) (s : State) : Out :=
  .next (takeCommand 1 (answerWith fun t => slotBytes t.hold.slots[n]) s)

/-- GET INFLIGHT n (R30). -/
def execGetInflight (n : Fin 8) (s : State) : Out :=
  .next (takeCommand 1 (answerWith fun t => inflightBytes t.rows[n]) s)

/-- GET with an item code that names no item (R168). A code that does name one is not this command (assumption 28). -/
def execGetUnknownItem (code : Byte) (s : State) : Out :=
  .next (if (itemOf code).isSome then s else takeCommand 1 (refuse .badarg) s)

end Sys2Proof.Machine
end

