-- ==== Sys2Proof/Machine/ServiceCommands.lean ====
section
/-! DEFINITION. The meanings of READPTR, RELEASE, ACK and DONE (chapters 5, 8 and 10). -/

namespace Sys2Proof.Machine

/-! ### READPTR -/

/-- READ moves to `v`: the watermark may be re-armed, and a placement that waits for space is formed again (R145,
R146). -/
def moveRead (v : Word) (s : State) : State :=
  let t := { s with rw := { s.rw with read := v } }
  let u := if t.rw.used < t.rw.watermark then { t with rw := { t.rw with armed := true } } else t
  if u.rw.writer = .waitSpace then formPlacement u else u

/-- READPTR (R145). -/
def readptr (v : Word) (s : State) : State × List Byte :=
  if s.sc.session = .off ∨ s.rw.mode = .once then refuse .state s
  else if v.toNat % 4 = 0 ∧ s.rw.base.toNat ≤ v.toNat ∧ v.toNat < s.rw.limit.toNat then
    if s.rw.distance s.rw.read v ≤ s.rw.used then accept (arbitrate (moveRead v s)) else refuse .badarg s
  else refuse .badarg s

/-! ### RELEASE -/

/-- A disposition suits the kind of the parked transaction (R87 step 3). -/
def suits (d : Disposition) (k : Kind) : Bool :=
  match d, k with
  | .relReplace, .read | .relAbsorb, .read | .relSupply, .write => false
  | _, _ => true

/-- The number of words that a release of `beats` takes (R87 step 4). -/
def wordsWanted (d : Disposition) (beats : Nat) : Nat :=
  match d with
  | .relReplace | .relSupply => beats
  | _ => 0

/-- A slot number in an argument byte: none above 1. -/
def slotNumber (n : Byte) : Option (Fin 2) := if h : n.toNat < 2 then some ⟨n.toNat, h⟩ else none

/-- RELEASE of slot `n` (R87 steps 2 to 4, R88). -/
def releaseChecked (n : Fin 2) (ticket : Byte) (d : Disposition) (count : Nat) (words : List Word) (s : State) :
    State × List Byte :=
  match s.hold.slots[n] with
  | none => refuse .stale s
  | some p =>
    if p.ticket ≠ ticket then refuse .stale s
    else if suits d p.kind = false then refuse .illegal s
    else if count ≠ wordsWanted d p.beats then refuse .badarg s
    else accept (finish (releaseSlot (makeHit false) n d words s))

/-- RELEASE with its arguments complete (R87, R168). -/
def release (slot ticket disposition count : Byte) (words : List Word) (s : State) : State × List Byte :=
  if 8 < count.toNat then refuse .badarg s
  else
    match slotNumber slot, releaseDispositionOf disposition with
    | some n, some d => releaseChecked n ticket d count.toNat words s
    | _, _ => refuse .badarg s

/-- The argument bytes of a RELEASE: a word count above 8 ends them (R168). -/
def releaseArgs (count : Byte) : Nat := if 8 < count.toNat then 4 else 4 + 4 * count.toNat

/-! ### ACK and DONE -/

/-- ACK (R162): the lowest-numbered eligible class is set in service, its oldest cause is removed and returned with
its overflow flag, which is cleared. -/
def ack (s : State) : State × List Byte :=
  match s.au.lowestEligible with
  | none => (s, [Status.none.code, 0#8, 0#8, 0#8, 0#8])
  | some c =>
    match s.au.classes[c].causes with
    | [] => (s, [Status.none.code, 0#8, 0#8, 0#8, 0#8])
    | x :: rest =>
      ({ s with
         au := { s.au with classes := s.au.classes.set c { causes := rest, overflow := false, inService := true } } },
       Status.ok.code :: ackBytes c s.au.classes[c].overflow x)

/-- DONE (R163). -/
def done (s : State) : State × List Byte :=
  match s.au.lowestInService with
  | none => refuse .notService s
  | some c =>
    accept
      { s with au := { s.au with classes := s.au.classes.set c { s.au.classes[c] with inService := false } } }

/-! ### The commands -/

/-- READPTR (R145). -/
def execReadptr (v : Word) (s : State) : Out := .next (takeCommand 4 (readptr v) s)

/-- RELEASE (R87, R88). A frame that has not brought all its words is not taken (R166). -/
def execRelease (slot ticket disposition count : Byte) (words : List Word) (s : State) : Out :=
  .next
    (if count.toNat ≤ 8 ∧ words.length ≠ count.toNat then s
     else takeCommand (releaseArgs count) (release slot ticket disposition count words) s)

/-- ACK (R162). -/
def execAck (s : State) : Out := .next (takeCommand 0 ack s)

/-- DONE (R163). -/
def execDone (s : State) : Out := .next (takeCommand 0 done s)

end Sys2Proof.Machine
end

