-- ==== Sys2Proof/Machine/SessionCommands.lean ====
section
/-! DEFINITION. The meanings of the session commands: ARM, STOP, RESTART, CLEAR, LEVEL, MARK (chapters 3 and 7). -/

namespace Sys2Proof.Machine

/-! ### ARM -/

/-- The results of ARM (R47, TABLE 3.3): the START record is placed into the empty queue (R111). -/
def armSession (s : State) : State :=
  { mapRows (fun r => { r with owed := false }) s with
    totals := Vector.replicate 16 0#32
    cq := { records := [{ body := .start s.tb.ticks s.sc.startLevel, timeLost := false, time := 0#20 }],
            lossCount := 0#32, pendingLoss := 0#32, claim := none }
    rw := { s.rw with write := s.rw.base, read := s.rw.base, ringDone := false, armed := true }
    counters := mapVec Counter.load s.counters
    rbl := { refTime := s.tb.ticks, timeLost := false, losslessSeen := false }
    sc := { s.sc with session := .watching, level := s.sc.startLevel, reason := .none, stopRecord := .notDue } }

/-- ARM (R46, R47). -/
def arm (s : State) : State × List Byte :=
  if s.sc.session = .off ∨ s.sc.session = .stopped then
    if s.rw.valid then accept (arbitrate (takeHead (armSession s))) else refuse .badarg s
  else refuse .state s

/-! ### RESTART -/

/-- A row stripped of its hit information (R13, R19, R41). That an ORPHAN row is one of "every row", which R41's "ORPHAN
rows ... are unchanged" and R30 leave open, is the model's choice (assumption 31). -/
def Row.strip (r : Row) : Row :=
  { r with
    early := 0#16, late := 0#16, hits := 0#16, option := .none, owed := false, lossless := false, notified := 0#4,
    carry := .forwarded, holdRefused := false }

/-- A RESPONDING row's response is delivered (R41). -/
def deliverWaiting (tag : Fin 8) (s : State) : State :=
  match s.rows[tag].state, s.rows[tag].wait with
  | .responding, some w => deliverRow tag w.status s
  | _, _ => s

/-- A write at the LOSSLESS gate is decided FORWARD, and none of its early hit set's actions is handed on (R22, R41). -/
def forwardHeld (s : State) : State :=
  match s.rqp.acceptance with
  | .waitLossless tag _ _ => decideRequest tag .passThrough s
  | .idle | .waitOrphan _ | .waitConflict _ => s

/-- The Ring Writer gives up its work (R147). -/
def RingWriter.abandon (r : RingWriter) : RingWriter :=
  { r with writer := if r.outstanding.isSome then .abandoning else .idle, written := 0, placement := none }

/-- What RESTART does to the blocks outside the path (TABLE 3.4). -/
def restartBlocks (s : State) : State :=
  { s with
    sc := { s.sc with session := .off, level := s.sc.startLevel, reason := .none, stopRecord := .notDue }
    cq := { records := [], lossCount := 0#32, pendingLoss := 0#32, claim := none }
    rbl := { s.rbl with timeLost := false, losslessSeen := false }
    counters := mapVec Counter.rest s.counters
    rw := s.rw.abandon
    mpa := { s.mpa with passOver := 0 }
    au := { s.au with classes := Vector.replicate 4 AlertClass.empty } }

/-- RESTART (R56): every row loses its hit information and its debt, an ORPHAN row too (assumption 31), the path goes on
without a match, and the slots are released with STOP_FORWARD (R41, R99; assumption 8). -/
def restart (s : State) : State × List Byte :=
  let t := mapRows Row.strip (restartBlocks s)
  let u := forwardHeld (allTags.foldl (fun a n => deliverWaiting n a) t)
  accept (finish (releaseBoth (makeHit false) u))

/-! ### STOP, CLEAR, LEVEL, MARK -/

/-- STOP (R49). -/
def stop (s : State) : State × List Byte :=
  if s.sc.session = .watching then accept (finish (stopRequest .command s)) else refuse .state s

/-- CLEAR (R55). -/
def clear (s : State) : State × List Byte :=
  if s.sc.session = .fault then accept { s with sc := { s.sc with session := .stopped } } else refuse .state s

/-- LEVEL (R59). -/
def level (v : Byte) (s : State) : State × List Byte :=
  if s.sc.session = .watching then
    match fin4Of v.toNat with
    | some l => accept (finish (levelRequest l .command 0 s))
    | none => refuse .badarg s
  else refuse .state s

/-- MARK (R114, R124). -/
def mark (v : Word) (s : State) : State × List Byte :=
  if s.sc.session = .watching then
    match admitBundle false (.mark v) s with
    | some t => accept (finish (takeHead t))
    | none => refuse .busy s
  else refuse .state s

/-! ### The commands -/

/-- ARM (R46). -/
def execArm (s : State) : Out := .next (takeCommand 0 arm s)

/-- STOP (R49). -/
def execStop (s : State) : Out := .next (takeCommand 0 stop s)

/-- RESTART (R56). -/
def execRestart (s : State) : Out := .next (takeCommand 0 restart s)

/-- CLEAR (R55). -/
def execClear (s : State) : Out := .next (takeCommand 0 clear s)

/-- LEVEL (R59). -/
def execLevel (v : Byte) (s : State) : Out := .next (takeCommand 1 (level v) s)

/-- MARK (R124). -/
def execMark (v : Word) (s : State) : Out := .next (takeCommand 4 (mark v) s)

end Sys2Proof.Machine
end

