-- ==== Sys2Proof/Machine/Timing.lean ====
section
/-! DEFINITION. The meanings of the timed events. -/

namespace Sys2Proof.Machine

/-- TICK (R63). -/
def execTick (s : State) : Out := .next (tick s)

/-- COUNTER_EXPIRY (R76). -/
def execCounterExpiry (s : State) : Out := .next (expireCounters s)

/-- HOLD_TIMEOUT (R93). -/
def execHoldTimeout (n : Fin 2) (s : State) : Out := .next (holdExpire n s)

/-- AUTONOMOUS_GAP (R117). -/
def execAutonomousGap (s : State) : Out := .next (autonomousGap s)

end Sys2Proof.Machine
end

