-- ==== Sys2Proof/Machine/Writes.lean ====
section
/-! DEFINITION. The meanings of the PUTs, of ENABLE and of DISABLE. -/

namespace Sys2Proof.Machine

/-! ### What each item's owner does -/

/-- PUT SESSION (R61). -/
def putSession (b : Bytes 4) (s : State) : State × List Byte :=
  if s.sc.session = .off ∨ s.sc.session = .stopped then
    match sessionConfigOf b with
    | some c => accept { s with sc := { s.sc with startLevel := c.1, levelRecords := c.2.1, stallLimit := c.2.2 } }
    | none => refuse .badarg s
  else refuse .state s

/-- PUT RING (R135). -/
def putRing (b : Bytes 13) (s : State) : State × List Byte :=
  if s.sc.session.records then refuse .state s
  else
    match descriptorOf b with
    | some d =>
      accept
        { s with
          rw := { s.rw with
            base := d.base, limit := d.limit, mode := d.mode, watermark := d.watermark, write := d.base,
            read := d.base, ringDone := false, armed := true } }
    | none => refuse .badarg s

/-- The timeouts that a PUT HOLD causes, "either slot first" (R92): a free choice (assumption 9). -/
def expireBoth (s : State) : State :=
  if s.holdDue 0 && s.holdDue 1 then
    let t := { s with choices := s.choices + 1 }
    if Config.slotOneFirst s.choices then holdExpire 0 (holdExpire 1 t) else holdExpire 1 (holdExpire 0 t)
  else holdExpire 1 (holdExpire 0 s)

/-- PUT HOLD (R101, R92). -/
def putHold (b : Bytes 5) (s : State) : State × List Byte :=
  match holdConfigOf b with
  | some c =>
    accept (expireBoth { s with hold := { s.hold with limit := c.1, timeoutFail := c.2.1, holdClass := c.2.2 } })
  | none => refuse .badarg s

/-- PUT TIMEBASE (R65). -/
def putTimebase (b : Bytes 1) (s : State) : State × List Byte :=
  if s.sc.session.records then refuse .state s
  else
    match prescaleOf b[0] with
    | some p => accept { s with tb := { s.tb with prescale := p, phase := 0 } }
    | none => refuse .badarg s

/-- PUT ALERTMAP (R158). -/
def putAlertmap (b : Bytes 9) (s : State) : State × List Byte :=
  match alertMapOf b with
  | some m => accept { s with au := { s.au with map := m } }
  | none => refuse .badarg s

/-- Entry `n` is replaced and leaves every row's late candidate set (R3), an ORPHAN row's too: the model's choice beside
R30 (assumption 31). -/
def writeEntry (n : Fin 16) (e : Entry) (s : State) : State :=
  mapRows (fun r => { r with late := r.late &&& ~~~(1#16 <<< n.val) }) { s with entries := s.entries.set n e }

/-- PUT ENTRY n (R3, R4, R5). -/
def putEntry (n : Fin 16) (b : Bytes 28) (s : State) : State × List Byte :=
  if s.sc.session.records && s.entries[n].enabled then refuse .busy s
  else
    match entryOf b with
    | some e => if e.illegal then refuse .illegal s else accept (writeEntry n e s)
    | none => refuse .badarg s

/-- PUT COUNTER n (R67, R68, R69). -/
def putCounter (n : Fin 4) (b : Bytes 11) (s : State) : State × List Byte :=
  match counterOf n b with
  | none => refuse .badarg s
  | some c =>
    if s.sc.session.records then
      if s.counters[n].sameConfig c then
        accept { s with counters := s.counters.set n { s.counters[n] with pending := some c.constant } }
      else refuse .busy s
    else accept { s with counters := s.counters.set n c }

/-- The status of a PUT that is taken at its item byte (R168). -/
def unsupportedStatus (code : Byte) : Status :=
  match itemOf code with
  | none => .badarg
  | some _ => .illegal

/-- ENABLE n and DISABLE n (R6). -/
def setEnabled (n : Byte) (on : Bool) (s : State) : State × List Byte :=
  match entryNumber n with
  | some k => accept { s with entries := s.entries.set k { s.entries[k] with enabled := on } }
  | none => refuse .badarg s

/-! ### The commands -/

/-- PUT SESSION (R61). -/
def execPutSession (b : Bytes 4) (s : State) : Out := .next (takeCommand 5 (putSession b) s)

/-- PUT RING (R135). -/
def execPutRing (b : Bytes 13) (s : State) : Out := .next (takeCommand 14 (putRing b) s)

/-- PUT HOLD (R101). -/
def execPutHold (b : Bytes 5) (s : State) : Out := .next (takeCommand 6 (putHold b) s)

/-- PUT TIMEBASE (R65). -/
def execPutTimebase (b : Bytes 1) (s : State) : Out := .next (takeCommand 2 (putTimebase b) s)

/-- PUT ALERTMAP (R158). -/
def execPutAlertmap (b : Bytes 9) (s : State) : Out := .next (takeCommand 10 (putAlertmap b) s)

/-- PUT ENTRY n (R3). -/
def execPutEntry (n : Fin 16) (b : Bytes 28) (s : State) : Out := .next (takeCommand 29 (putEntry n b) s)

/-- PUT COUNTER n (R67). -/
def execPutCounter (n : Fin 4) (b : Bytes 11) (s : State) : Out := .next (takeCommand 12 (putCounter n b) s)

/-- PUT to a code that names no item, or names a GET-only item (R168). A code of an item with a PUT form is not this
command (assumption 28). -/
def execPutUnsupportedItem (code : Byte) (s : State) : Out :=
  .next
    (match itemOf code with
     | some i => if i.getOnly then takeCommand 1 (refuse (unsupportedStatus code)) s else s
     | none => takeCommand 1 (refuse (unsupportedStatus code)) s)

/-- ENABLE n (R6). -/
def execEnable (n : Byte) (s : State) : Out := .next (takeCommand 1 (setEnabled n true) s)

/-- DISABLE n (R6). -/
def execDisable (n : Byte) (s : State) : Out := .next (takeCommand 1 (setEnabled n false) s)

end Sys2Proof.Machine
end

