-- ==== Sys2Proof/Machine/Dispatch.lean ====
section
/-! DEFINITION. The effect of each command on everything but the queue, one arm a command. -/

namespace Sys2Proof.Machine

def exec (i : Instr) (s : State) : Host.Outcome State Fault Refusal :=
  match i with
  | .request r => Sys2Proof.Machine.execRequest r s
  | .losslessGatePass => Sys2Proof.Machine.execLosslessGatePass s
  | .respondingRecordPlaced tag => Sys2Proof.Machine.execRespondingRecordPlaced tag s
  | .stopRecordReoffer => Sys2Proof.Machine.execStopRecordReoffer s
  | .losslessStallTimeout tag => Sys2Proof.Machine.execLosslessStallTimeout tag s
  | .responseDelivery n => Sys2Proof.Machine.execResponseDelivery n s
  | .memoryResponse m => Sys2Proof.Machine.execMemoryResponse m s
  | .portReturnToReady => Sys2Proof.Machine.execPortReturnToReady s
  | .tick => Sys2Proof.Machine.execTick s
  | .counterExpiry => Sys2Proof.Machine.execCounterExpiry s
  | .holdTimeout slot => Sys2Proof.Machine.execHoldTimeout slot s
  | .autonomousGap => Sys2Proof.Machine.execAutonomousGap s
  | .pathReset => Sys2Proof.Machine.execPathReset s
  | .prstDeasserted => Sys2Proof.Machine.execPrstDeasserted s
  | .deviceReset => Sys2Proof.Machine.execDeviceReset s
  | .resetRelease => Sys2Proof.Machine.execResetRelease s
  | .powerOn => Sys2Proof.Machine.execPowerOn s
  | .truncatedFrame => Sys2Proof.Machine.execTruncatedFrame s
  | .frameEnd => Sys2Proof.Machine.execFrameEnd s
  | .unknownCommand code => Sys2Proof.Machine.execUnknownCommand code s
  | .status => Sys2Proof.Machine.execStatus s
  | .getSession => Sys2Proof.Machine.execGetSession s
  | .getRing => Sys2Proof.Machine.execGetRing s
  | .getHold => Sys2Proof.Machine.execGetHold s
  | .getTimebase => Sys2Proof.Machine.execGetTimebase s
  | .getAlertmap => Sys2Proof.Machine.execGetAlertmap s
  | .getTotals => Sys2Proof.Machine.execGetTotals s
  | .getEntry n => Sys2Proof.Machine.execGetEntry n s
  | .getCounter n => Sys2Proof.Machine.execGetCounter n s
  | .getSlot n => Sys2Proof.Machine.execGetSlot n s
  | .getInflight n => Sys2Proof.Machine.execGetInflight n s
  | .getUnknownItem code => Sys2Proof.Machine.execGetUnknownItem code s
  | .putSession b => Sys2Proof.Machine.execPutSession b s
  | .putRing b => Sys2Proof.Machine.execPutRing b s
  | .putHold b => Sys2Proof.Machine.execPutHold b s
  | .putTimebase b => Sys2Proof.Machine.execPutTimebase b s
  | .putAlertmap b => Sys2Proof.Machine.execPutAlertmap b s
  | .putEntry n b => Sys2Proof.Machine.execPutEntry n b s
  | .putCounter n b => Sys2Proof.Machine.execPutCounter n b s
  | .putUnsupportedItem code => Sys2Proof.Machine.execPutUnsupportedItem code s
  | .arm => Sys2Proof.Machine.execArm s
  | .stop => Sys2Proof.Machine.execStop s
  | .restart => Sys2Proof.Machine.execRestart s
  | .clear => Sys2Proof.Machine.execClear s
  | .level v => Sys2Proof.Machine.execLevel v s
  | .enable n => Sys2Proof.Machine.execEnable n s
  | .disable n => Sys2Proof.Machine.execDisable n s
  | .readptr v => Sys2Proof.Machine.execReadptr v s
  | .mark v => Sys2Proof.Machine.execMark v s
  | .release slot ticket disposition count words => Sys2Proof.Machine.execRelease slot ticket disposition count words s
  | .ack => Sys2Proof.Machine.execAck s
  | .done => Sys2Proof.Machine.execDone s
  | .frameStart => Sys2Proof.Machine.execFrameStart s
  | .csDeassertedAfterReset => Sys2Proof.Machine.execCsDeassertedAfterReset s

end Sys2Proof.Machine
end

