-- ==== Sys2Proof/Machine/Step.lean ====
section
/-! DEFINITION. One step: the command at the front of the queue, or, on an empty queue, one cycle of CLK. -/

namespace Sys2Proof.Machine

/-- The command at the front of the queue acts on the state with the queue's rest. On an empty queue one cycle of CLK
passes (assumption 1). -/
def step (s : State) : Host.Outcome State Fault Refusal :=
  match s.pending with
  | c :: rest => exec c { s with pending := rest }
  | [] => .next (clkCycle s)

/-- The state with the command that the word spells at the front of its queue; the state itself where the word spells
none, which is every word, since the opcode table gives no bits (assumptions 21, 22). -/
def State.withFetchWord (s : State) (nbits w : Nat) : State :=
  match decodeTableWord nbits w with
  | some c => { s with pending := c :: s.pending }
  | none => s

end Sys2Proof.Machine
end

