-- ==== Sys2Proof/Safety.lean ====
section
/-! DEFINITION. The invariants of the block: what the spec says always holds of its state, between steps. -/

namespace Sys2Proof.Machine

/-! ### What the host configured -/

/-- The configured fields of a counter other than its constant (R69). -/
structure CounterSetup where
  mode      : CounterMode
  source    : CounterSource
  start     : CounterStart
  reload    : CounterReload
  alert     : Option (Fin 4)
  nextLevel : Option (Fin 4)
  stop      : Bool
  record    : Bool
  deriving DecidableEq, Repr

/-- The configured fields of a counter other than its constant (R69). -/
def Counter.setup (c : Counter) : CounterSetup :=
  { mode := c.mode, source := c.source, start := c.start, reload := c.reload, alert := c.alert,
    nextLevel := c.nextLevel, stop := c.stop, record := c.record }

/-- All that the host writes with PUT, ENABLE and DISABLE, but for the counters' constants. -/
structure Setup where
  entries      : Vector Entry 16
  counters     : Vector CounterSetup 4
  holdLimit    : BitVec 24
  timeoutFail  : Bool
  holdClass    : Option (Fin 4)
  startLevel   : Fin 4
  levelRecords : Bool
  stallLimit   : BitVec 16
  prescale     : Prescale
  base         : Word
  limit        : Word
  mode         : RingMode
  watermark    : Nat
  map          : AlertMap
  deriving DecidableEq, Repr

/-- What the host configured, as it stands. -/
def State.setup (s : State) : Setup :=
  { entries := s.entries, counters := mapVec Counter.setup s.counters, holdLimit := s.hold.limit,
    timeoutFail := s.hold.timeoutFail, holdClass := s.hold.holdClass, startLevel := s.sc.startLevel,
    levelRecords := s.sc.levelRecords, stallLimit := s.sc.stallLimit, prescale := s.tb.prescale, base := s.rw.base,
    limit := s.rw.limit, mode := s.rw.mode, watermark := s.rw.watermark, map := s.au.map }

/-! ### Capture Queue and session -/

/-- "Capture Queue occupancy never exceeds 128 words" (R120). -/
abbrev State.queueFits (s : State) : Prop := s.cq.occupancy ≤ Config.queueWords

/-- The queue is empty outside WATCHING and STOPPING (R47, R52, R131, R133) and once RING_DONE is set (R132), RING_DONE
is never set while WATCHING (R140), and no claim stands between steps (R126). -/
abbrev State.queueQuiet (s : State) : Prop :=
  (s.sc.session.records = false → s.cq.records = []) ∧ (s.rw.ringDone = true → s.cq.records = []) ∧
    (s.sc.session = .watching → s.rw.ringDone = false) ∧ s.cq.claim = none

/-! ### Event counters -/

/-- A cascade source is a lower counter (R66). -/
def Counter.sourceBelow (n : Fin 4) (c : Counter) : Bool :=
  match c.source with
  | .entries => true
  | .cascade k => decide (k.val < n.val)

/-- The ranges of TABLE 4.2: no count is 0, a cascade source is a lower counter, and WAIT_START arises only for TIME
with ON_HIT (R66, R73). -/
abbrev Counter.inRange (n : Fin 4) (c : Counter) : Prop :=
  (1 ≤ c.constant ∧ c.constant ≤ 65536) ∧ (1 ≤ c.value ∧ c.value ≤ 65536) ∧
    (c.pending.all fun p => decide (1 ≤ p) && decide (p ≤ 65536)) = true ∧
    c.sourceBelow n = true ∧ (c.state = .waitStart → c.mode = .time ∧ c.start = .onHit)

/-- Every counter is in range. -/
abbrev State.countersInRange (s : State) : Prop := ∀ n : Fin 4, s.counters[n].inRange n

/-! ### Alert Unit -/

/-- A class record (R156): at most four causes, no two of one kind and index, repeat counts 1-255, and the overflow
flag only over a list that holds a cause. -/
abbrev AlertClass.sound (c : AlertClass) : Prop :=
  c.causes.length ≤ Config.classCauses ∧ (c.causes.map fun x => (x.kind, x.index)).Nodup ∧
    (∀ x ∈ c.causes, 1 ≤ x.count ∧ x.count ≤ Config.repeatMax) ∧ (c.overflow = true → c.causes ≠ [])

/-- Every class record is sound. -/
abbrev State.alertsSound (s : State) : Prop := ∀ c : Fin 4, s.au.classes[c].sound

/-! ### Arbiter, timebase, frames -/

/-- The pass-over count is 0-16 (R154). -/
abbrev State.passOverFits (s : State) : Prop := s.mpa.passOver ≤ Config.passOverMax

/-- The phase is below the divisor (R63). -/
abbrev State.phaseFits (s : State) : Prop := s.tb.phase < s.tb.prescale.divisor

/-- A frame stands only while CS is asserted and RESET is not (R165, R172), and nothing is answered before a command is
taken (R165). -/
abbrev State.frameSound (s : State) : Prop :=
  (s.mgp.frame ≠ .idle → s.lines.cs = true ∧ s.lines.reset = false) ∧
    (s.mgp.frame ≠ .answering → s.mgp.answer = [])

/-! ### The path -/

/-- The tag parked in a slot. -/
abbrev State.slotTag (s : State) (n : Fin 2) : Option (Fin 8) := s.hold.slots[n].map (·.tag)

/-- The slot's copy agrees with the row of its tag (R82). -/
def State.slotInStep (s : State) (n : Fin 2) : Bool :=
  match s.hold.slots[n] with
  | none => true
  | some p =>
    decide (p.kind = s.rows[p.tag].kind ∧ p.address = s.rows[p.tag].address ∧ p.size = s.rows[p.tag].size ∧
      p.beats = s.rows[p.tag].beats ∧ p.writeData = s.rows[p.tag].writeData)

/-- "A tag is in the Forward Queue exactly when its row is QUEUED. The Forward Queue never holds one tag twice."
(R35). -/
abbrev State.forwardQueueSound (s : State) : Prop :=
  s.fq.Nodup ∧ ∀ t : Fin 8, t ∈ s.fq ↔ s.rows[t].state = .queued

/-- A row is PARKED exactly when a slot holds its tag, the slots hold two transactions with two tickets, in step with
their rows, and nothing is parked outside WATCHING (R50, R82). -/
abbrev State.slotsSound (s : State) : Prop :=
  (∀ t : Fin 8, s.rows[t].state = .parked ↔ (s.slotTag 0 = some t ∨ s.slotTag 1 = some t)) ∧
    (s.slotTag 0 ≠ none → s.slotTag 0 ≠ s.slotTag 1) ∧
    (s.slotTag 0 ≠ none → s.hold.slots[0].map (·.ticket) ≠ s.hold.slots[1].map (·.ticket)) ∧
    (∀ n : Fin 2, s.slotInStep n = true) ∧
    (s.sc.session ≠ .watching → s.slotTag 0 = none ∧ s.slotTag 1 = none)

/-- The Request Port holds at most one request (R31): a row is DECIDING exactly when it waits at the LOSSLESS gate, a
request in the ORPHAN wait has an ORPHAN row, and one in the CONFLICT wait has an EMPTY row and a covered line. -/
def State.portSound (s : State) : Bool :=
  match s.rqp.acceptance with
  | .idle => decide (∀ t : Fin 8, s.rows[t].state ≠ .deciding)
  | .waitOrphan r =>
    decide ((∀ t : Fin 8, s.rows[t].state ≠ .deciding) ∧ malformed r = false ∧ s.rows[r.tag].state = .orphan)
  | .waitConflict r =>
    decide ((∀ t : Fin 8, s.rows[t].state ≠ .deciding) ∧ malformed r = false ∧ s.rows[r.tag].state = .empty ∧
      s.covered r.address = true)
  | .waitLossless tag _ _ => decide (∀ t : Fin 8, s.rows[t].state = .deciding ↔ t = tag)

/-- A row holds a built record and a response exactly while it is RESPONDING (R29, R127). -/
abbrev State.waitsSound (s : State) : Prop :=
  ∀ t : Fin 8, s.rows[t].state = .responding ↔ s.rows[t].wait.isSome = true

/-- An EMPTY row has the values of the EMPTY column (R28). -/
abbrev State.emptyRowsSound (s : State) : Prop :=
  ∀ t : Fin 8, s.rows[t].state = .empty → s.rows[t] = Row.empty

/-- The path: rows, Forward Queue, slots and Request Port agree with one another. -/
abbrev State.pathSound (s : State) : Prop :=
  s.forwardQueueSound ∧ s.slotsSound ∧ s.portSound = true ∧ s.waitsSound ∧ s.emptyRowsSound

/-! ### Records -/

/-- The request held in an ORPHAN or CONFLICT wait has passed the protocol check (R31). -/
def Acceptance.checked : Acceptance → Bool
  | .waitOrphan r | .waitConflict r => !malformed r
  | .idle | .waitLossless _ _ _ => true

/-- The lengths of records are 1-12 words (R104, R106), which rests on the legal numbers of beats (R26). -/
abbrev State.recordsSound (s : State) : Prop :=
  (∀ r ∈ s.cq.records, 1 ≤ r.length ∧ r.length ≤ 12) ∧ (∀ t : Fin 8, s.rows[t].beats ∈ [1, 2, 4, 8]) ∧
    (∀ t : Fin 8, (s.rows[t].wait.all fun w => decide (w.record.data.length ≤ 8)) = true) ∧
    s.rqp.acceptance.checked = true

/-! ### Ring -/

/-- A pointer stands at a word of the ring (TABLE 8.1). -/
abbrev RingWriter.holds (r : RingWriter) (a : Word) : Prop :=
  a.toNat % 4 = 0 ∧ r.base.toNat ≤ a.toNat ∧ a.toNat < r.limit.toNat

/-- A burst has 1, 2, 4 or 8 words, is aligned to its own length, and lies in the ring (R141). -/
abbrev RingWriter.admits (r : RingWriter) (b : Burst) : Prop :=
  b.words.length ∈ [1, 2, 4, 8] ∧ b.address.toNat % (4 * b.words.length) = 0 ∧ r.base.toNat ≤ b.address.toNat ∧
    b.address.toNat + 4 * b.words.length ≤ r.limit.toNat

/-- The descriptor checks of a PUT RING that was taken (R135). -/
abbrev RingWriter.described (r : RingWriter) : Prop :=
  r.base.toNat % 32 = 0 ∧ r.limit.toNat % 32 = 0 ∧ r.base.toNat + 64 ≤ r.limit.toNat ∧
    r.limit.toNat ≤ r.base.toNat + 16777216 ∧ 1 ≤ r.watermark ∧ r.watermark < r.size

/-- A placement is in progress exactly while WRITING; its bursts and its end lie in the ring, and it has a burst left
whenever none is outstanding (R141, R142, R143). -/
def RingWriter.placementSound (r : RingWriter) : Bool :=
  match r.placement with
  | none => decide (r.writer ≠ .writing)
  | some p =>
    decide (r.writer = .writing ∧ r.holds p.newWrite ∧ (∀ b ∈ p.bursts, r.admits b) ∧
      (r.outstanding.isNone = true → p.bursts ≠ []))

/-- A burst is outstanding only while WRITING, and then lies in the ring, or while ABANDONING, and there always
(R134, R147). -/
def RingWriter.outstandingSound (r : RingWriter) : Bool :=
  match r.outstanding with
  | none => decide (r.writer ≠ .abandoning)
  | some b => decide (r.writer = .abandoning ∨ (r.writer = .writing ∧ r.admits b))

/-- The ring: either no PUT RING has been taken since device reset and no session stands, or the descriptor is valid
and both pointers stand in the ring; the placement and the burst outstanding are in order; and the writer works only in
a session that makes records, waiting for space only in LOOP mode (R134, R137, R138). -/
abbrev State.ringSound (s : State) : Prop :=
  ((s.rw.base = 0#32 ∧ s.rw.limit = 0#32 ∧ s.sc.session.records = false) ∨
      (s.rw.described ∧ s.rw.holds s.rw.write ∧ s.rw.holds s.rw.read)) ∧
    s.rw.placementSound = true ∧ s.rw.outstandingSound = true ∧
    (s.rw.writer = .writing ∨ s.rw.writer = .waitSpace → s.sc.session.records = true) ∧
    (s.rw.writer = .waitSpace → s.rw.mode = .loop)

/-! ### All of them -/

/-- The counters, the Alert Unit, the arbiter, the timebase and the frame are sound. -/
abbrev State.unitsSound (s : State) : Prop :=
  s.countersInRange ∧ s.alertsSound ∧ s.passOverFits ∧ s.phaseFits ∧ s.frameSound

/-- Every invariant of this file. -/
def State.sound (s : State) : Prop :=
  (s.queueFits ∧ s.queueQuiet) ∧ s.unitsSound ∧ (s.pathSound ∧ s.recordsSound) ∧ s.ringSound

/-! ### Hypotheses of statements -/

/-- The Memory Port has nothing to grant: it is ISSUING, or no request stands (R153). -/
def State.noGrant (s : State) : Bool :=
  match s.mpa.port with
  | .issuing _ => true
  | .ready => s.fq.isEmpty && s.rw.request.isNone

/-- The wait of the Request Port, if any, is not over (R32, R96, R129). -/
def State.waitStands (s : State) : Bool :=
  match s.rqp.acceptance with
  | .idle => true
  | .waitOrphan r => decide (s.rows[r.tag].state = .orphan)
  | .waitConflict r => s.covered r.address
  | .waitLossless _ _ _ => s.mayWait

/-- STOPPING has no progress to make: rows owe records, or the STOP record waits for room, or it is placed and has not
yet been published (R51, R52). -/
def State.stoppingStands (s : State) : Bool :=
  match s.sc.stopRecord with
  | .notDue => s.someOwes
  | .due => !s.rw.ringDone
  | .placed => s.someOwes || !s.cq.records.isEmpty || !s.rw.isIdle

/-- Nothing that the end of a step acts on is left (assumption 7): no wait is over, STOPPING has no progress to make,
and nothing is to be granted. Every step ends in such a state. -/
abbrev State.atRest (s : State) : Prop :=
  s.waitStands = true ∧ (s.mayWait = true ∨ ∀ t : Fin 8, s.rows[t].state ≠ .responding) ∧
    (s.sc.session = .stopping → s.stoppingStands = true) ∧ s.noGrant = true

/-- No event of the block's own is due: nothing waits for room, and no limit or expiry has been reached. -/
abbrev State.nothingDue (s : State) : Prop :=
  s.rqp.acceptance = .idle ∧ (∀ t : Fin 8, s.rows[t].state ≠ .responding) ∧
    ¬(s.sc.session = .stopping ∧ s.sc.stopRecord = .due) ∧ s.gapDue = false ∧ s.expiryDue = false ∧
    s.holdDue 0 = false ∧ s.holdDue 1 = false

/-- The Request Port is about to read a request `r` newly presented, with no other before it, and nothing else is left
to do. -/
abbrev State.readyFor (s : State) : Prop := s.mayRead = true ∧ s.rqp.presented = [] ∧ s.cq.claim = none ∧ s.atRest

/-- The hits of `e` ask for nothing beyond totals, causes and a disposition: no notice, no level, no stop, no record. -/
abbrev plainHits (entries : Vector Entry 16) (e : BitVec 16) : Prop :=
  linksOf entries e = 0#4 ∧ levelOf entries e = none ∧ stopOf entries e = none ∧ owesRecord entries e = false

/-- The byte of an optional field, as a number (R171): 128 and the value, or 0 when absent. -/
def optionalField : Option (Fin 4) → Nat
  | none => 0
  | some v => 128 + v.val

/-- The state after a command of the Management Port was taken with `args` argument bytes and answered (R166). -/
def State.answered (s : State) (args : Nat) (bytes : List Byte) : State :=
  { s with mgp := { frame := .answering, byteCount := 1 + args, answer := bytes } }

/-- The state with one class record of the Alert Unit replaced. -/
def State.withClass (s : State) (c : Fin 4) (k : AlertClass) : State :=
  { s with au := { s.au with classes := s.au.classes.set c k } }

/-- The commands that write what the host configures, and the resets. -/
def configures : Instr → Bool
  | .putSession _ | .putRing _ | .putHold _ | .putTimebase _ | .putAlertmap _ | .putEntry _ _ | .putCounter _ _
  | .enable _ | .disable _ | .deviceReset | .powerOn => true
  | _ => false

/-- The commands that move the timebase, its divisor or its phase (R63, R65). -/
def movesTime : Instr → Bool
  | .tick | .putTimebase _ | .deviceReset | .powerOn => true
  | _ => false

/-- The commands on the lines RESET, PRST and CS. -/
def movesLines : Instr → Bool
  | .pathReset | .prstDeasserted | .deviceReset | .resetRelease | .powerOn | .truncatedFrame | .frameEnd | .frameStart
  | .csDeassertedAfterReset => true
  | _ => false

end Sys2Proof.Machine
end

