-- ==== Sys2Proof/Certificates/Slice0/Obligations.lean ====
section
/-! DEFINITION. The statements for the provers. A number after R is a rule of spec/; an assumption is a row of
notes/assumptions/. Two choices of the model show in many of them: a command also does what follows at once from what it
did, in a fixed order, so that a statement about a state at rest sees the command's own effect alone (assumption 7); and
a row is EMPTY as soon as its response is ready for the upstream bus (assumption 24). -/

open Sys2Proof Sys2Proof.Machine

/-! ### The step -/

/-- The command at the front of the queue is run, with the queue's rest. -/
def Obligations.StepRunsTheFrontCommand : Prop :=
  ∀ (c : Instr) (rest : List Instr) (s : State),
    step { s with pending := c :: rest } = exec c { s with pending := rest }

/-- The model's choice (assumption 1): on an empty queue one cycle of CLK passes, which is a tick when the phase has
counted a full period of the divisor (R63), and nothing while RESET is asserted (R172). -/
def Obligations.IdleStepIsOneClkCycle : Prop :=
  ∀ s : State, s.pending = [] →
    (s.lines.reset = true → step s = .next s) ∧
    (s.lines.reset = false → s.tb.phase + 1 < s.tb.prescale.divisor →
      step s = .next { s with tb := { s.tb with phase := s.tb.phase + 1 } }) ∧
    (s.lines.reset = false → s.tb.prescale.divisor ≤ s.tb.phase + 1 → step s = exec .tick s)

/-- Every command has a next state in every state, and none touches the queue of commands. The queue, and that a
command which cannot come or is not due is one that changes nothing, are the model's own (assumptions 1, 2, 6, 22, 27). -/
def Obligations.EveryCommandAnswersANextState : Prop :=
  ∀ (c : Instr) (s : State), ∃ t, exec c s = .next t ∧ t.pending = s.pending

/-- What the host configured changes only by the commands that write it and by the resets; the timebase moves only by a
tick, PUT TIMEBASE and the resets; the lines change only by their own commands. -/
def Obligations.ConfigurationTimeAndLinesAreKept : Prop :=
  ∀ (c : Instr) (s t : State), exec c s = .next t →
    (configures c = false → t.setup = s.setup) ∧ (movesTime c = false → t.tb = s.tb) ∧
    (movesLines c = false → t.lines = s.lines)

/-! ### Resets and lines -/

/-- DEVICE_RESET: the reset value of every field for which the spec states one; RESET then stands asserted, ALERT is
released, and the requests that the Request Port had not taken stay on the bus (R172, R44). POWER_ON is the same
(R173; assumption 11). The model's choices: the byte count is 0 (assumption 25), PRST and CS stay as they are
(assumptions 11, 20), and no expiry of the model's own field stands (assumption 29). -/
def Obligations.DeviceResetState : Prop :=
  ∀ s : State, exec .powerOn s = exec .deviceReset s ∧
    ∃ t, exec .deviceReset s = .next t ∧
      (∀ n : Fin 8, t.rows[n] = Row.empty) ∧ t.fq = [] ∧ t.rqp.acceptance = .idle ∧ t.rqp.ready = [] ∧
      t.rqp.presented = s.rqp.acceptance.untaken ++ s.rqp.presented ∧
      (∀ n : Fin 16, t.entries[n].enabled = false ∧ t.entries[n].direction = .read ∧ t.entries[n].low = 0#32 ∧
        t.entries[n].high = 0#32 ∧ t.entries[n].tags = 0#8 ∧ t.entries[n].levels = 0#4 ∧
        t.entries[n].pattern = none ∧ t.entries[n].capture = false ∧ t.entries[n].lossless = false ∧
        t.entries[n].alert = none ∧ t.entries[n].dispose = .none ∧ t.entries[n].stop = false ∧
        t.entries[n].link = none ∧ t.entries[n].nextLevel = none) ∧
      (∀ n : Fin 16, t.totals[n] = 0#32) ∧ (∀ n : Fin 2, t.hold.slots[n] = none) ∧ t.hold.ticket = 0#8 ∧
      t.hold.limit = 0#24 ∧ t.hold.timeoutFail = false ∧ t.hold.holdClass = none ∧
      t.sc = { session := .off, level := 0, reason := .none, stopRecord := .notDue, startLevel := 0,
               levelRecords := false, stallLimit := 256#16 } ∧
      t.tb = { ticks := 0#32, prescale := .div1, phase := 0 } ∧ (∀ n : Fin 4, t.counters[n] = Counter.initial) ∧
      t.rbl = { refTime := 0#32, timeLost := false, losslessSeen := false } ∧
      t.cq = { records := [], lossCount := 0#32, pendingLoss := 0#32, claim := none } ∧
      t.rw = { base := 0#32, limit := 0#32, mode := .loop, watermark := 0, write := 0#32, read := 0#32,
               ringDone := false, armed := true, writer := .idle, written := 0, outstanding := none,
               placement := none } ∧
      t.mpa = { port := .ready, passOver := 0 } ∧ (∀ c : Fin 4, t.au.classes[c] = AlertClass.empty) ∧
      t.au.map = AlertMap.allNone ∧ t.au.alert = false ∧ t.mgp = { frame := .idle, byteCount := 0, answer := [] } ∧
      t.lines = { s.lines with reset := true } ∧ t.pending = s.pending

/-- While RESET is asserted the timebase holds, a request presented is only presented, and CS begins no frame (R172,
R44; assumption 20). At the release the Request Port reads what is presented, as at any REQUEST (R44; assumption 5); a
release that is no release changes nothing (assumption 27). -/
def Obligations.ResetHeldAndReleased : Prop :=
  ∀ s : State,
    (s.lines.reset = true → exec .tick s = .next s) ∧
    (∀ r : Request, s.lines.reset = true →
      exec (.request (some r)) s = .next { s with rqp := { s.rqp with presented := s.rqp.presented ++ [r] } }) ∧
    (s.lines.reset = true → s.lines.cs = false →
      exec .frameStart s = .next { s with lines := { s.lines with cs := true } }) ∧
    (s.lines.reset = true → s.rqp.presented = [] → s.atRest →
      exec .resetRelease s = .next { s with lines := { s.lines with reset := false } }) ∧
    (s.lines.reset = true → s.lines.prst = false → s.rqp.acceptance = .idle →
      exec .resetRelease s = exec (.request none) { s with lines := { s.lines with reset := false } }) ∧
    (s.lines.reset = false → exec .resetRelease s = .next s)

/-- PATH_RESET (R42, R100): the rows as TABLE 2.3 gives, the Forward Queue, the slots, the acceptance state, the
presented requests and the ready responses; what it leaves alone; the cause. PRST_DEASSERTED: the Request Port reads
what is presented, as at any REQUEST (assumption 5). A second assertion, or a deassertion of a line that is not
asserted, changes nothing (assumption 27). -/
def Obligations.PathResetAndItsEnd : Prop :=
  ∀ s : State,
    (s.lines.prst = false →
      ∃ t, exec .pathReset s = .next t ∧
        (∀ n : Fin 8,
          (s.rows[n].state ∈ [.deciding, .queued, .parked, .responding] → t.rows[n] = Row.empty) ∧
          (s.rows[n].state = .issued → t.rows[n] = { s.rows[n] with state := .orphan, owed := false }) ∧
          (s.rows[n].state ∈ [.empty, .orphan] → t.rows[n] = s.rows[n])) ∧
        t.fq = [] ∧ (∀ n : Fin 2, t.hold.slots[n] = none) ∧ t.hold.ticket = s.hold.ticket ∧
        t.rqp.acceptance = .idle ∧ t.rqp.presented = [] ∧ t.rqp.ready = [] ∧
        t.lines = { s.lines with prst := true } ∧ t.entries = s.entries ∧ t.totals = s.totals ∧
        t.counters = s.counters ∧ t.sc.level = s.sc.level ∧ t.mgp = s.mgp ∧
        (s.sc.session ≠ .stopping →
          t.sc = s.sc ∧ t.cq.records = s.cq.records ∧ t.cq.lossCount = s.cq.lossCount ∧
          t.au = (raiseMapped .pathReset 0 s).au)) ∧
    (s.lines.prst = true → exec .pathReset s = .next s) ∧
    (s.lines.prst = true → s.rqp.presented = [] → s.atRest →
      exec .prstDeasserted s = .next { s with lines := { s.lines with prst := false } }) ∧
    (s.lines.prst = true → s.lines.reset = false → s.rqp.acceptance = .idle →
      exec .prstDeasserted s = exec (.request none) { s with lines := { s.lines with prst := false } }) ∧
    (s.lines.prst = false → exec .prstDeasserted s = .next s)

/-- The events on CS (R165, R166, R172; assumptions 6, 20): FRAME_START begins a frame, except while RESET is asserted;
TRUNCATED_FRAME ends one that is RECEIVING, FRAME_END one that is ANSWERING, CS_DEASSERTED_AFTER_RESET the assertion
that is no frame. The byte count is 0 at both ends of a frame, which in IDLE is the model's choice (assumption 25).
Nothing else changes, and an event that the state of CS rules out changes nothing. -/
def Obligations.FrameEvents : Prop :=
  ∀ s : State,
    (s.lines.cs = false → s.lines.reset = false →
      exec .frameStart s =
        .next { s with lines := { s.lines with cs := true },
                       mgp := { frame := .receiving, byteCount := 0, answer := [] } }) ∧
    (s.lines.cs = false → s.lines.reset = true →
      exec .frameStart s = .next { s with lines := { s.lines with cs := true } }) ∧
    (s.lines.cs = true → exec .frameStart s = .next s) ∧
    (∀ (c : Instr) (f : FrameState),
      (c, f) ∈ [(.truncatedFrame, .receiving), (.frameEnd, .answering), (.csDeassertedAfterReset, .idle)] →
      (s.lines.cs = true → s.mgp.frame = f →
        exec c s =
          .next { s with lines := { s.lines with cs := false },
                         mgp := { frame := .idle, byteCount := 0, answer := [] } }) ∧
      ((s.lines.cs = false ∨ s.mgp.frame ≠ f) → exec c s = .next s))

/-! ### Management Port: reads -/

/-- A command of the Management Port is taken only while a frame is RECEIVING (R165, R166; assumption 6). -/
def Obligations.CommandsAreTakenOnlyWhileReceiving : Prop :=
  ∀ (c : Instr) (s : State), Frame.encode c ≠ none → s.mgp.frame ≠ .receiving → exec c s = .next s

/-- STATUS and every GET return OK and the layout of the state as it stands, and change nothing but the answer (R166,
R169, R170). The layouts have the lengths of TABLE 11.1 and TABLE 11.4, and every field of TABLE 11.6 (STATUS) and of
TABLE 11.8 to TABLE 11.16: SESSION (the stop index of NONE and FAULT is the model's choice, assumption 33), RING, HOLD,
TIMEBASE, ALERTMAP, ENTRY, COUNTER (bytes 12-13 without a pending constant are the model's choice, assumption 32), SLOT
and INFLIGHT; TOTALS are the sixteen totals, entry 0 first. -/
def Obligations.ReadsAnswerTheLayout : Prop :=
  (∀ s : State, s.mgp.frame = .receiving →
    exec .status s = .next (s.answered 0 (0x00#8 :: statusBytes s)) ∧
    exec .getSession s = .next (s.answered 1 (0x00#8 :: sessionBytes s)) ∧
    exec .getRing s = .next (s.answered 1 (0x00#8 :: ringBytes s.rw)) ∧
    exec .getHold s = .next (s.answered 1 (0x00#8 :: holdBytes s.hold)) ∧
    exec .getTimebase s = .next (s.answered 1 (0x00#8 :: timebaseBytes s.tb)) ∧
    exec .getAlertmap s = .next (s.answered 1 (0x00#8 :: alertMapBytes s.au.map)) ∧
    exec .getTotals s = .next (s.answered 1 (0x00#8 :: totalsBytes s.totals)) ∧
    (∀ n : Fin 16,
      exec (.getEntry (BitVec.ofNat 8 n.val)) s = .next (s.answered 1 (0x00#8 :: entryBytes s.entries[n]))) ∧
    (∀ n : Fin 4, exec (.getCounter n) s = .next (s.answered 1 (0x00#8 :: counterBytes s.counters[n]))) ∧
    (∀ n : Fin 2, exec (.getSlot n) s = .next (s.answered 1 (0x00#8 :: slotBytes s.hold.slots[n]))) ∧
    (∀ n : Fin 8, exec (.getInflight n) s = .next (s.answered 1 (0x00#8 :: inflightBytes s.rows[n])))) ∧
  (∀ s : State, (statusBytes s).length = 2 ∧ (sessionBytes s).length = 22 ∧ (ringBytes s.rw).length = 13 ∧
    (holdBytes s.hold).length = 6 ∧ (timebaseBytes s.tb).length = 5 ∧ (alertMapBytes s.au.map).length = 9 ∧
    (totalsBytes s.totals).length = 64) ∧
  (∀ e : Entry, (entryBytes e).length = 28) ∧ (∀ c : Counter, (counterBytes c).length = 17) ∧
  (∀ s : State, ∃ b0 b1 : Byte, statusBytes s = [b0, b1] ∧
    b0.toNat = s.sc.session.code + 16 * s.sc.level.val + (if s.au.alert = true then 128 else 0) ∧
    b1.toNat = (if s.hold.slots[0] = none then 0 else 1) + (if s.hold.slots[1] = none then 0 else 2) +
      (if 96 ≤ s.cq.occupancy then 4 else 0)) ∧
  (slotBytes none).length = 14 ∧ (∀ p : Parked, (slotBytes (some p)).length = 14 + 4 * p.writeData.length) ∧
  (∀ r : Row, (inflightBytes r).length = 25 + 4 * (r.writeData.length + r.readBuf.length)) ∧
  (∀ s : State, s.queueFits → ∃ b : Bytes 22, sessionBytes s = b.toList ∧ b[0].toNat = s.sc.startLevel.val ∧
    b[1].toNat = s.sc.levelRecords.toNat ∧ b[2] ++ b[3] = s.sc.stallLimit ∧ b[4].toNat = s.sc.session.code ∧
    b[5].toNat = s.sc.level.val ∧ b[6].toNat = s.sc.reason.code ∧
    b[7].toNat = (match s.sc.reason with | .entry n => n.val | .counter n => n.val | _ => 0) ∧
    b[8].toNat = s.cq.occupancy ∧
    b[9].toNat = (if 96 ≤ s.cq.occupancy then 1 else 0) + (if s.rw.ringDone = true then 2 else 0) ∧
    wordOfBytes b[10] b[11] b[12] b[13] = s.cq.lossCount ∧ wordOfBytes b[14] b[15] b[16] b[17] = s.rw.write ∧
    wordOfBytes b[18] b[19] b[20] b[21] = s.rw.read) ∧
  (∀ t : Timebase, ∃ b : Bytes 5, timebaseBytes t = b.toList ∧
    b[0].toNat = (match t.prescale with | .div1 => 0 | .div16 => 1 | .div256 => 2 | .div4096 => 3) ∧
    wordOfBytes b[1] b[2] b[3] b[4] = t.ticks) ∧
  (∀ (totals : Vector Word 16) (n : Fin 16), ∃ b0 b1 b2 b3 : Byte,
    ((totalsBytes totals).drop (4 * n.val)).take 4 = [b0, b1, b2, b3] ∧ wordOfBytes b0 b1 b2 b3 = totals[n]) ∧
  slotBytes none = List.replicate 14 0#8 ∧
  (∀ p : Parked, ∃ b : Bytes 14,
    slotBytes (some p) = b.toList ++ p.writeData.flatMap bytesOfWord ∧ b[0].toNat = 1 ∧ b[1].toNat = p.tag.val ∧
    b[2] = p.ticket ∧ wordOfBytes b[3] b[4] b[5] b[6] = p.parkTime ∧
    b[7].toNat = (if p.kind = .write then 1 else 0) ∧ b[8].toNat = p.size.code ∧
    (p.beats ∈ [1, 2, 4, 8] → 2 ^ b[9].toNat = p.beats) ∧ wordOfBytes b[10] b[11] b[12] b[13] = p.address) ∧
  (∀ r : Row, ∃ b : Bytes 25,
    inflightBytes r = b.toList ++ r.writeData.flatMap bytesOfWord ++ r.readBuf.flatMap bytesOfWord ∧
    b[0].toNat = r.state.code ∧ b[1].toNat = (if r.kind = .write then 1 else 0) ∧ b[2].toNat = r.size.code ∧
    (r.beats ∈ [1, 2, 4, 8] → 2 ^ b[3].toNat = r.beats) ∧ wordOfBytes b[4] b[5] b[6] b[7] = r.address ∧
    b[8].toNat = r.arrivalLevel.val ∧ wordOfBytes b[9] b[10] b[11] b[12] = r.takingTime ∧
    b[13] ++ b[14] = r.early ∧ b[15] ++ b[16] = r.late ∧ b[17] ++ b[18] = r.hits ∧ b[19].toNat = r.option.code ∧
    b[20].toNat = r.owed.toNat + 2 * r.lossless.toNat + 4 * r.holdRefused.toNat ∧
    b[21].toNat = r.notified.toNat ∧ b[22].toNat = r.carry.code ∧
    (r.writeData.length ≤ 8 → b[23].toNat = r.writeData.length) ∧
    (r.readBuf.length ≤ 8 → b[24].toNat = r.readBuf.length)) ∧
  (∀ w : Word, ∃ b0 b1 b2 b3 : Byte, bytesOfWord w = [b0, b1, b2, b3] ∧ wordOfBytes b0 b1 b2 b3 = w) ∧
  (∀ r : RingWriter, ∃ b : Bytes 13, ringBytes r = b.toList ∧ wordOfBytes b[0] b[1] b[2] b[3] = r.base ∧
    wordOfBytes b[4] b[5] b[6] b[7] = r.limit ∧ b[8].toNat = (if r.mode = .once then 1 else 0) ∧
    (r.watermark < 4294967296 → (wordOfBytes b[9] b[10] b[11] b[12]).toNat = r.watermark)) ∧
  (∀ h : HoldUnit, ∃ b : Bytes 6, holdBytes h = b.toList ∧ b[0] ++ b[1] ++ b[2] = h.limit ∧
    b[3].toNat = h.timeoutFail.toNat ∧ b[4].toNat = optionalField h.holdClass ∧ b[5] = h.ticket) ∧
  (∀ m : AlertMap, ∃ b : Bytes 9, alertMapBytes m = b.toList ∧ b[0].toNat = optionalField m.holdRefused ∧
    b[1].toNat = optionalField m.queueUrgent ∧ b[2].toNat = optionalField m.lossBegin ∧
    b[3].toNat = optionalField m.losslessTimeout ∧ b[4].toNat = optionalField m.ringHigh ∧
    b[5].toNat = optionalField m.ringDone ∧ b[6].toNat = optionalField m.portError ∧
    b[7].toNat = optionalField m.pathReset ∧ b[8].toNat = optionalField m.sessionStopped) ∧
  (∀ e : Entry, ∃ b : Bytes 28, entryBytes e = b.toList ∧
    b[0].toNat = e.enabled.toNat + 8 * e.lossless.toNat + 16 * e.stop.toNat + 32 * e.pattern.isSome.toNat ∧
    b[1].toNat = (match e.direction with | .read => 0 | .write => 1 | .either => 2) ∧ b[2].toNat = e.capture.toNat ∧
    b[3].toNat = e.dataOption.code ∧ b[4].toNat = (match e.dispose with | .none => 0 | .hold => 1 | .block => 2) ∧
    b[5].toNat = (if e.blockStatus = .error then 1 else 0) ∧ b[6].toNat = optionalField e.alert ∧
    b[7].toNat = optionalField e.link ∧ b[8].toNat = optionalField e.nextLevel ∧ b[9] = e.tags ∧
    b[10].toNat = e.levels.toNat ∧ b[11] = 0#8 ∧ wordOfBytes b[12] b[13] b[14] b[15] = e.low ∧
    wordOfBytes b[16] b[17] b[18] b[19] = e.high ∧
    (e.pattern = none → wordOfBytes b[20] b[21] b[22] b[23] = 0#32 ∧ wordOfBytes b[24] b[25] b[26] b[27] = 0#32) ∧
    (∀ p, e.pattern = some p →
      wordOfBytes b[20] b[21] b[22] b[23] = p.compare ∧ wordOfBytes b[24] b[25] b[26] b[27] = p.care)) ∧
  (∀ c : Counter, ∃ b : Bytes 17, counterBytes c = b.toList ∧ b[0].toNat = (if c.mode = .time then 1 else 0) ∧
    (c.source = .entries → b[1] = 0#8) ∧ (∀ k, c.source = .cascade k → b[1] = 1#8 ∧ b[2].toNat = k.val) ∧
    b[3].toNat = (if c.start = .onHit then 1 else 0) ∧ b[4].toNat = (if c.reload = .oneshot then 1 else 0) ∧
    b[5].toNat = optionalField c.alert ∧ b[6].toNat = optionalField c.nextLevel ∧ b[7].toNat = c.stop.toNat ∧
    b[8].toNat = c.record.toNat ∧ (b[9] ++ b[10]).toNat = c.constant % 65536 ∧
    b[11].toNat = c.pending.isSome.toNat ∧ (∀ v, c.pending = some v → (b[12] ++ b[13]).toNat = v % 65536) ∧
    (c.pending = none → b[12] ++ b[13] = 0#16) ∧ (b[14] ++ b[15]).toNat = c.value % 65536 ∧
    b[16].toNat = (match c.state with | .idle => 0 | .waitStart => 1 | .counting => 2))

/-- A command byte that names nothing gets UNKNOWN, an item code or entry number that names nothing gets BADARG, and a
PUT to a GET-only item gets ILLEGAL; nothing but the answer changes (R6, R168). -/
def Obligations.NamelessCommandsAreRefused : Prop :=
  ∀ s : State, s.mgp.frame = .receiving →
    (∀ code : Byte, namesCommand code = false → exec (.unknownCommand code) s = .next (s.answered 0 [0x0F#8])) ∧
    (∀ code : Byte, itemOf code = none →
      exec (.getUnknownItem code) s = .next (s.answered 1 [0x03#8]) ∧
      exec (.putUnsupportedItem code) s = .next (s.answered 1 [0x03#8])) ∧
    (∀ (code : Byte) (i : Item), itemOf code = some i → i.getOnly = true →
      exec (.putUnsupportedItem code) s = .next (s.answered 1 [0x04#8])) ∧
    (∀ n : Byte, 15 < n.toNat →
      exec (.getEntry n) s = .next (s.answered 1 [0x03#8]) ∧ exec (.enable n) s = .next (s.answered 1 [0x03#8]) ∧
      exec (.disable n) s = .next (s.answered 1 [0x03#8]))

/-! ### Management Port: writes -/

/-- PUT SESSION (R61): STATE in WATCHING, STOPPING and FAULT; then BADARG; then the three fields are replaced and
nothing else. -/
def Obligations.PutSession : Prop :=
  ∀ (b : Bytes 4) (s : State), s.mgp.frame = .receiving →
    (s.sc.session ∈ [.watching, .stopping, .fault] → exec (.putSession b) s = .next (s.answered 5 [0x02#8])) ∧
    (s.sc.session ∈ [.off, .stopped] → (3 < b[0].toNat ∨ 1 < b[1].toNat ∨ b[2] ++ b[3] = 0#16) →
      exec (.putSession b) s = .next (s.answered 5 [0x03#8])) ∧
    (s.sc.session ∈ [.off, .stopped] → ∀ (v : Fin 4) (on : Bool), b[0].toNat = v.val →
      b[1].toNat = on.toNat → b[2] ++ b[3] ≠ 0#16 →
      exec (.putSession b) s =
        .next ({ s with sc := { s.sc with startLevel := v, levelRecords := on, stallLimit := b[2] ++ b[3] } }.answered
          5 [0x00#8]))

/-- PUT RING (R135): STATE in WATCHING and STOPPING; then BADARG, exactly when a check of the rule fails; then the
descriptor is replaced, both pointers go to BASE, RING_DONE is cleared and the watermark armed, and nothing else
changes. -/
def Obligations.PutRing : Prop :=
  ∀ (b : Bytes 13) (s : State) (base limit mark : Nat), s.mgp.frame = .receiving →
    base = (wordOfBytes b[0] b[1] b[2] b[3]).toNat → limit = (wordOfBytes b[4] b[5] b[6] b[7]).toNat →
    mark = (wordOfBytes b[9] b[10] b[11] b[12]).toNat →
    (s.sc.session ∈ [.watching, .stopping] → exec (.putRing b) s = .next (s.answered 14 [0x02#8])) ∧
    (s.sc.session ∈ [.off, .stopped, .fault] →
      (base % 32 ≠ 0 ∨ limit % 32 ≠ 0 ∨ limit ≤ base ∨ limit - base < 64 ∨ 16777216 < limit - base ∨
        1 < b[8].toNat ∨ mark = 0 ∨ (limit - base) / 4 ≤ mark) →
      exec (.putRing b) s = .next (s.answered 14 [0x03#8])) ∧
    (s.sc.session ∈ [.off, .stopped, .fault] → base % 32 = 0 → limit % 32 = 0 → base < limit → 64 ≤ limit - base →
      limit - base ≤ 16777216 → b[8].toNat ≤ 1 → mark ≠ 0 → mark < (limit - base) / 4 →
      exec (.putRing b) s =
        .next ({ s with
          rw := { s.rw with
            base := wordOfBytes b[0] b[1] b[2] b[3], limit := wordOfBytes b[4] b[5] b[6] b[7],
            mode := if b[8] = 0#8 then .loop else .once, watermark := mark,
            write := wordOfBytes b[0] b[1] b[2] b[3], read := wordOfBytes b[0] b[1] b[2] b[3], ringDone := false,
            armed := true } }.answered 14 [0x00#8]))

/-- PUT HOLD (R101): BADARG; taken with no slot due under the new limit; taken with one slot due, which times out at once
(R92, R93), here with the port busy, no request waiting and no record owed; taken with both due, when one is released and
then the other, either first (R92; assumption 9). The disposition to carry of a released write is assumption 13, its row
EMPTY while the response is ready assumption 24. PUT TIMEBASE (R65); PUT ALERTMAP (R158). -/
def Obligations.PutHoldTimebaseAlertmap : Prop :=
  ∀ s : State, s.mgp.frame = .receiving →
    (∀ b : Bytes 5, (1 < b[3].toNat ∨ (b[4].getLsbD 7 = true ∧ 3 < b[4].toNat % 16)) →
      exec (.putHold b) s = .next (s.answered 6 [0x03#8])) ∧
    (∀ (b : Bytes 5) (limit : BitVec 24) (fail : Bool) (cls : Option (Fin 4)) (t : State),
      holdConfigOf b = some (limit, fail, cls) →
      t = { s with hold := { s.hold with limit := limit, timeoutFail := fail, holdClass := cls } } →
      t.holdDue 0 = false → t.holdDue 1 = false → exec (.putHold b) s = .next (t.answered 6 [0x00#8])) ∧
    (∀ (b : Bytes 5) (limit : BitVec 24) (fail : Bool) (cls : Option (Fin 4)) (n : Fin 2) (p : Parked) (d : Downstream)
      (t u : State),
      holdConfigOf b = some (limit, fail, cls) →
      t = { s with hold := { s.hold with limit := limit, timeoutFail := fail, holdClass := cls } } →
      s.atRest → s.rqp.acceptance = .idle → s.mpa.port = .issuing d → s.hold.slots[n] = some p →
      t.holdDue n = true → t.holdDue (1 - n) = false → s.rows[p.tag].owed = false → s.rows[p.tag].state = .parked →
      u = { t with hold := { t.hold with slots := s.hold.slots.set n none },
                   au := (raise cls .holdTimeout n.val s).au } →
      (fail = false →
        exec (.putHold b) s =
          .next (State.answered
            { u with
              rows := s.rows.set p.tag { s.rows[p.tag] with state := .queued, carry := .timeoutForward },
              fq := s.fq ++ [p.tag] } 6 [0x00#8])) ∧
      (fail = true →
        exec (.putHold b) s =
          .next (State.answered
            { u with
              rows := s.rows.set p.tag Row.empty,
              rqp := { s.rqp with ready := s.rqp.ready ++ [{ status := .error, tag := p.tag, data := [] }] } }
            6 [0x00#8]))) ∧
    (∀ (b : Bytes 5) (limit : BitVec 24) (cls : Option (Fin 4)) (p : Fin 2 → Parked) (d : Downstream) (t : State),
      holdConfigOf b = some (limit, false, cls) →
      t = { s with hold := { s.hold with limit := limit, timeoutFail := false, holdClass := cls } } →
      s.atRest → s.rqp.acceptance = .idle → s.mpa.port = .issuing d → (p 0).tag ≠ (p 1).tag →
      (∀ n : Fin 2, s.hold.slots[n] = some (p n) ∧ t.holdDue n = true ∧ s.rows[(p n).tag].owed = false ∧
        s.rows[(p n).tag].state = .parked) →
      ∃ (m : Fin 2) (u : State), exec (.putHold b) s = .next (u.answered 6 [0x00#8]) ∧
        u.fq = s.fq ++ [(p m).tag, (p (1 - m)).tag] ∧
        (∀ n : Fin 2, u.hold.slots[n] = none ∧
          u.rows[(p n).tag] = { s.rows[(p n).tag] with state := .queued, carry := .timeoutForward }) ∧
        (∀ k : Fin 8, (∀ n : Fin 2, (p n).tag ≠ k) → u.rows[k] = s.rows[k]) ∧
        u.au = (raise cls .holdTimeout (1 - m).val (raise cls .holdTimeout m.val s)).au ∧
        u = { t with fq := u.fq, rows := u.rows, hold := { t.hold with slots := u.hold.slots }, au := u.au,
                     choices := u.choices }) ∧
    (∀ b : Bytes 1, s.sc.session ∈ [.watching, .stopping] →
      exec (.putTimebase b) s = .next (s.answered 2 [0x02#8])) ∧
    (∀ b : Bytes 1, s.sc.session ∈ [.off, .stopped, .fault] → 3 < b[0].toNat →
      exec (.putTimebase b) s = .next (s.answered 2 [0x03#8])) ∧
    (∀ (b : Bytes 1) (p : Prescale), s.sc.session ∈ [.off, .stopped, .fault] → p.code = b[0] →
      exec (.putTimebase b) s = .next ({ s with tb := { s.tb with prescale := p, phase := 0 } }.answered 2 [0x00#8])) ∧
    (∀ b : Bytes 9, (∃ n : Fin 9, b[n].getLsbD 7 = true ∧ 3 < b[n].toNat % 16) →
      exec (.putAlertmap b) s = .next (s.answered 10 [0x03#8])) ∧
    (∀ (b : Bytes 9) (m : AlertMap), alertMapOf b = some m →
      exec (.putAlertmap b) s = .next ({ s with au := { s.au with map := m } }.answered 10 [0x00#8]))

/-- PUT ENTRY n (R3, R4, R5): BUSY, then BADARG, then ILLEGAL, each changing nothing; a taken PUT replaces entry n,
removes it from every row's late candidate set, an ORPHAN row's too (assumption 31), and changes nothing else. -/
def Obligations.PutEntry : Prop :=
  ∀ (n : Fin 16) (b : Bytes 28) (s : State), s.mgp.frame = .receiving →
    (s.sc.session ∈ [.watching, .stopping] → s.entries[n].enabled = true →
      exec (.putEntry n b) s = .next (s.answered 29 [0x01#8])) ∧
    ((s.sc.session ∉ [.watching, .stopping] ∨ s.entries[n].enabled = false) →
      ((wordOfBytes b[16] b[17] b[18] b[19]).toNat < (wordOfBytes b[12] b[13] b[14] b[15]).toNat ∨ 2 < b[1].toNat ∨
        1 < b[2].toNat ∨ 2 < b[3].toNat ∨ 2 < b[4].toNat ∨ 1 < b[5].toNat ∨
        (∃ k : Fin 28, k.val ∈ [6, 7, 8] ∧ b[k].getLsbD 7 = true ∧ 3 < b[k].toNat % 16)) →
      exec (.putEntry n b) s = .next (s.answered 29 [0x03#8])) ∧
    (∀ e : Entry, (s.sc.session ∉ [.watching, .stopping] ∨ s.entries[n].enabled = false) → entryOf b = some e →
      ((e.pattern ≠ none ∧ e.direction ≠ .write ∧ e.dispose ≠ .none) ∨ (e.lossless = true ∧ e.capture = false)) →
      exec (.putEntry n b) s = .next (s.answered 29 [0x04#8])) ∧
    (∀ e : Entry, (s.sc.session ∉ [.watching, .stopping] ∨ s.entries[n].enabled = false) → entryOf b = some e →
      ¬(e.pattern ≠ none ∧ e.direction ≠ .write ∧ e.dispose ≠ .none) → ¬(e.lossless = true ∧ e.capture = false) →
      ∃ t : State, exec (.putEntry n b) s = .next (t.answered 29 [0x00#8]) ∧
        t = { s with entries := s.entries.set n e, rows := t.rows } ∧
        ∀ k : Fin 8, t.rows[k] = { s.rows[k] with late := s.rows[k].late &&& ~~~(1#16 <<< n.val) })

/-- PUT COUNTER n (R67, R68, R69): BADARG first, in any session state; outside a session the counter is replaced, IDLE
at its constant; during one only a pending constant is set, or BUSY. -/
def Obligations.PutCounter : Prop :=
  ∀ (n : Fin 4) (b : Bytes 11) (s : State), s.mgp.frame = .receiving →
    ((1 < b[0].toNat ∨ 1 < b[1].toNat ∨ (b[1] = 1#8 ∧ n.val ≤ b[2].toNat) ∨ 1 < b[3].toNat ∨ 1 < b[4].toNat ∨
        (∃ k : Fin 11, k.val ∈ [5, 6] ∧ b[k].getLsbD 7 = true ∧ 3 < b[k].toNat % 16) ∨ 1 < b[7].toNat ∨
        1 < b[8].toNat) →
      exec (.putCounter n b) s = .next (s.answered 12 [0x03#8])) ∧
    (∀ c : Counter, counterOf n b = some c → s.sc.session ∉ [.watching, .stopping] →
      c.pending = none ∧ c.value = c.constant ∧ c.state = .idle ∧
      exec (.putCounter n b) s = .next ({ s with counters := s.counters.set n c }.answered 12 [0x00#8])) ∧
    (∀ c : Counter, counterOf n b = some c → s.sc.session ∈ [.watching, .stopping] →
      c.setup = s.counters[n].setup →
      exec (.putCounter n b) s =
        .next ({ s with counters := s.counters.set n { s.counters[n] with pending := some c.constant } }.answered
          12 [0x00#8])) ∧
    (∀ c : Counter, counterOf n b = some c → s.sc.session ∈ [.watching, .stopping] →
      c.setup ≠ s.counters[n].setup → exec (.putCounter n b) s = .next (s.answered 12 [0x01#8]))

/-- ENABLE n and DISABLE n set one field of one entry, in every session state (R6). -/
def Obligations.EnableAndDisable : Prop :=
  ∀ (n : Fin 16) (s : State), s.mgp.frame = .receiving →
    exec (.enable (BitVec.ofNat 8 n.val)) s =
      .next ({ s with entries := s.entries.set n { s.entries[n] with enabled := true } }.answered 1 [0x00#8]) ∧
    exec (.disable (BitVec.ofNat 8 n.val)) s =
      .next ({ s with entries := s.entries.set n { s.entries[n] with enabled := false } }.answered 1 [0x00#8])

/-- What a PUT wrote, GET returns in the PUT's own layout: the bytes GET returns spell the same item again (R170,
R171). -/
def Obligations.ItemsRoundTrip : Prop :=
  (∀ (b : Bytes 28) (e : Entry), entryOf b = some e → (exactBytes 28 (entryBytes e)).bind entryOf = some e) ∧
  (∀ (n : Fin 4) (b : Bytes 11) (c : Counter), counterOf n b = some c →
    (exactBytes 11 ((counterBytes c).take 11)).bind (counterOf n) = some c) ∧
  (∀ m : AlertMap, (exactBytes 9 (alertMapBytes m)).bind alertMapOf = some m) ∧
  (∀ h : HoldUnit,
    (exactBytes 5 ((holdBytes h).take 5)).bind holdConfigOf = some (h.limit, h.timeoutFail, h.holdClass)) ∧
  (∀ s : State, s.sc.stallLimit ≠ 0#16 →
    (exactBytes 4 ((sessionBytes s).take 4)).bind sessionConfigOf =
      some (s.sc.startLevel, s.sc.levelRecords, s.sc.stallLimit)) ∧
  (∀ r : RingWriter, r.described → (exactBytes 13 (ringBytes r)).bind descriptorOf =
    some { base := r.base, limit := r.limit, mode := r.mode, watermark := r.watermark })

/-! ### Session -/

/-- ARM (R46, R47, R71, R111): STATE, then BADARG, else a session starts with every result of TABLE 3.3, and what ARM
leaves untouched stays. That no expiry stands is about the model's own field (assumption 29). -/
def Obligations.ArmStartsASession : Prop :=
  ∀ s : State, s.mgp.frame = .receiving →
    (s.sc.session ∈ [.watching, .stopping, .fault] → exec .arm s = .next (s.answered 0 [0x02#8])) ∧
    (s.sc.session ∈ [.off, .stopped] → s.rw.limit.toNat ≤ s.rw.base.toNat →
      exec .arm s = .next (s.answered 0 [0x03#8])) ∧
    (s.sc.session ∈ [.off, .stopped] → s.rw.described → s.noGrant = true →
      ∃ t : State, exec .arm s = .next (t.answered 0 [0x00#8]) ∧
        t.sc = { s.sc with session := .watching, level := s.sc.startLevel, reason := .none, stopRecord := .notDue } ∧
        (∀ n : Fin 16, t.totals[n] = 0#32) ∧ (∀ n : Fin 8, t.rows[n] = { s.rows[n] with owed := false }) ∧
        t.cq = { records := [{ body := .start s.tb.ticks s.sc.startLevel, timeLost := false, time := 0#20 }],
                 lossCount := 0#32, pendingLoss := 0#32, claim := none } ∧
        t.rw.write = s.rw.base ∧ t.rw.read = s.rw.base ∧ t.rw.ringDone = false ∧ t.rw.armed = true ∧
        (∀ n : Fin 4, t.counters[n] =
          { s.counters[n] with
            value := s.counters[n].constant, pending := none, tickPending := false,
            state :=
              if s.counters[n].mode = .time ∧ s.counters[n].start = .onHit then .waitStart else .counting }) ∧
        t.rbl = { refTime := s.tb.ticks, timeLost := false, losslessSeen := false } ∧ t.fq = s.fq ∧ t.rqp = s.rqp ∧
        t.hold = s.hold ∧ t.au = s.au ∧ t.entries = s.entries ∧ t.tb = s.tb)

/-- STOP (R49): refused with STATE outside WATCHING; in WATCHING a stop request with reason COMMAND (R50): the session
leaves WATCHING, no slot stays PARKED, no candidate stays, not even an ORPHAN row's (assumption 31), the counters freeze;
the expiry that a tick left standing, a
field of the model's own, is not made (assumptions 3, 29). Where no row owes a record, the STOP record is offered at once
(R50, R51, R112), here with the Ring Writer busy: with its reason and the present time it is placed whole, or it waits,
DUE; nothing else changes but what O21 gives of the rows, the slots and the Forward Queue. -/
def Obligations.StopCommand : Prop :=
  ∀ s : State, s.mgp.frame = .receiving →
    (s.sc.session ≠ .watching → exec .stop s = .next (s.answered 0 [0x02#8])) ∧
    (s.sc.session = .watching →
      ∃ t : State, exec .stop s = .next (t.answered 0 [0x00#8]) ∧ t.sc.session ∈ [.stopping, .stopped] ∧
        t.sc.reason = .command ∧ t.sc.level = s.sc.level ∧ (∀ n : Fin 2, t.hold.slots[n] = none) ∧
        (∀ n : Fin 8, t.rows[n].late = 0#16) ∧
        (∀ n : Fin 4, t.counters[n] = { s.counters[n] with tickPending := false }) ∧ t.entries = s.entries) ∧
    (∀ (d : Downstream) (u : State), s.sc.session = .watching → s.atRest → s.pathSound → s.someOwes = false →
      s.sc.stopRecord = .notDue → (∀ r, s.rqp.acceptance ≠ .waitConflict r) → s.mpa.port = .issuing d →
      s.rw.ringDone = false → s.rw.writer ≠ .idle → u = stopRequest .command s →
      (s.cq.room false < wordsIn (bundle s (.stop s.tb.ticks .command)) →
        exec .stop s = .next (State.answered { u with sc := { u.sc with stopRecord := .due } } 0 [0x00#8])) ∧
      (wordsIn (bundle s (.stop s.tb.ticks .command)) ≤ s.cq.room false →
        ∃ t : State, exec .stop s = .next (t.answered 0 [0x00#8]) ∧ t.sc = { u.sc with stopRecord := .placed } ∧
          t.cq = { s.cq with records := s.cq.records ++ bundle s (.stop s.tb.ticks .command), pendingLoss := 0#32 } ∧
          t = { u with sc := t.sc, cq := t.cq, rbl := t.rbl, au := t.au }) ∧
      u = { s with sc := u.sc, rows := u.rows, fq := u.fq, counters := u.counters,
                   hold := { s.hold with slots := u.hold.slots } })

/-- A stop request (R48, R50, R97): outside WATCHING it has no effect; in WATCHING it gives its reason, ends matching,
freezes the counters, and releases slot 0 before slot 1 into the Forward Queue with STOP_FORWARD. The choices of the
model that show: the STOP record state is left for the end of the step to make DUE (assumption 7), a released write
carries STOP_FORWARD in its row too (assumption 13), an expiry that a tick left standing is not made (assumption 29),
and an ORPHAN row's candidates are emptied with every row's (assumption 31). -/
def Obligations.EnteringStopping : Prop :=
  ∀ (reason : StopReason) (s : State),
    (s.sc.session ≠ .watching → stopRequest reason s = s) ∧
    (s.sc.session = .watching → s.pathSound →
      (stopRequest reason s).sc = { s.sc with session := .stopping, reason := reason } ∧
      (stopRequest reason s).fq = s.fq ++ s.hold.slots.toList.filterMap (fun p => p.map (·.tag)) ∧
      (∀ n : Fin 2, (stopRequest reason s).hold.slots[n] = none) ∧
      (∀ (n : Fin 2) (p : Parked), s.hold.slots[n] = some p →
        (stopRequest reason s).rows[p.tag] =
          { s.rows[p.tag] with
            state := .queued, late := 0#16, carry := .stopForward,
            owed := s.rows[p.tag].owed && decide (s.rows[p.tag].kind = .read) }) ∧
      (∀ n : Fin 8, s.rows[n].state ≠ .parked →
        (stopRequest reason s).rows[n] = { s.rows[n] with late := 0#16 }) ∧
      (∀ n : Fin 4, (stopRequest reason s).counters[n] = { s.counters[n] with tickPending := false }) ∧
      (stopRequest reason s).entries = s.entries ∧ (stopRequest reason s).totals = s.totals)

/-- LEVEL (R59) and the level request it makes (R57, R60): STATE, then BADARG; the present level is no change; a change
sets the level, and with level records on makes a LEVEL record, which is placed whole when it fits (here with the Ring
Writer busy) and changes nothing else. -/
def Obligations.LevelCommand : Prop :=
  ∀ (v : Byte) (s : State), s.mgp.frame = .receiving →
    (s.sc.session ≠ .watching → exec (.level v) s = .next (s.answered 1 [0x02#8])) ∧
    (s.sc.session = .watching → 3 < v.toNat → exec (.level v) s = .next (s.answered 1 [0x03#8])) ∧
    (∀ l : Fin 4, s.sc.session = .watching → v.toNat = l.val → s.atRest →
      (l = s.sc.level → exec (.level v) s = .next (s.answered 1 [0x00#8])) ∧
      (l ≠ s.sc.level → s.sc.levelRecords = false →
        exec (.level v) s = .next ({ s with sc := { s.sc with level := l } }.answered 1 [0x00#8])) ∧
      (l ≠ s.sc.level → s.sc.levelRecords = true → s.rw.ringDone = false → s.rw.writer ≠ .idle →
        ∃ t : State, exec (.level v) s = .next (t.answered 1 [0x00#8]) ∧ t.sc = { s.sc with level := l } ∧
          (if wordsIn (bundle s (.level s.sc.level l .command 0)) ≤ s.cq.room false then
             t.cq.records = s.cq.records ++ bundle s (.level s.sc.level l .command 0) ∧
               t.cq.lossCount = s.cq.lossCount
           else t.cq.records = s.cq.records ∧ t.cq.lossCount = satAdd s.cq.lossCount 1) ∧
          t.rows = s.rows ∧ t.fq = s.fq ∧ t.rqp = s.rqp ∧ t.hold = s.hold ∧ t.counters = s.counters ∧
          t.rw = s.rw ∧ t.totals = s.totals ∧ t.entries = s.entries))

/-- RESTART (R56, R41, R72, R99, R133, R147): taken in every session state, with every result of TABLE 3.4 and of R41.
Rows keep their state and the fields of their requests and lose their hit information; a RESPONDING row's response is
ready and the row EMPTY (assumption 24); the write at the LOSSLESS gate is decided FORWARD; the parked transactions are
QUEUED with STOP_FORWARD, slot 0 first; a request in the CONFLICT wait is taken in OFF; ORPHAN rows stay ORPHAN and the
ORPHAN wait stays. Nothing else changes, and the arbiter grants. The model's choices: ORPHAN rows lose their hit
information with every row (assumption 31); a released write carries STOP_FORWARD too (assumption 13); rows are answered
by ascending tag, and the tag of the write that waited goes before those of the slots, the reference time staying
(assumption 8); no expiry stands (assumption 29). -/
def Obligations.RestartResults : Prop :=
  ∀ (s : State) (q : Fin 8 → Row), s.mgp.frame = .receiving → s.pathSound →
    (∀ n : Fin 8, q n = { s.rows[n] with
      early := 0#16, late := 0#16, hits := 0#16, option := .none, owed := false, lossless := false, notified := 0#4,
      carry := .forwarded, holdRefused := false }) →
    ∃ u : State, exec .restart s = .next ((arbitrate u).answered 0 [0x00#8]) ∧
      (∀ n : Fin 8,
        (s.rows[n].state ∈ [.queued, .issued, .orphan] → u.rows[n] = q n) ∧
        (s.rows[n].state = .deciding → u.rows[n] = { q n with state := .queued }) ∧
        (s.rows[n].state = .parked → u.rows[n] = { q n with state := .queued, carry := .stopForward }) ∧
        (s.rows[n].state = .responding → u.rows[n] = Row.empty) ∧
        (s.rows[n].state = .empty → (∀ r, s.rqp.acceptance = .waitConflict r → r.tag ≠ n) →
          u.rows[n] = Row.empty)) ∧
      (∀ r : Request, s.rqp.acceptance = .waitConflict r →
        u.rows[r.tag] =
          { Row.empty with
            state := .queued, kind := r.kind, address := r.address, size := requestSize r, beats := r.beats,
            writeData := if r.kind = .write then r.data else [], arrivalLevel := s.sc.startLevel,
            takingTime := s.tb.ticks }) ∧
      u.fq = s.fq ++ (match s.rqp.acceptance with | .waitLossless tag _ _ => [tag] | _ => []) ++
        s.hold.slots.toList.filterMap (fun p => p.map (·.tag)) ++
        (match s.rqp.acceptance with | .waitConflict r => [r.tag] | _ => []) ∧
      u.rqp = { s.rqp with
        acceptance := (match s.rqp.acceptance with | .waitOrphan r => .waitOrphan r | _ => .idle),
        ready := s.rqp.ready ++ allTags.filterMap fun n => s.rows[n].wait.map fun w =>
          { status := w.status, tag := n,
            data := if s.rows[n].kind = .read ∧ w.status = .okay then s.rows[n].readBuf else [] } } ∧
      u.hold = { s.hold with slots := Vector.replicate 2 none } ∧
      u.sc = { s.sc with session := .off, level := s.sc.startLevel, reason := .none, stopRecord := .notDue } ∧
      u.cq = { records := [], lossCount := 0#32, pendingLoss := 0#32, claim := none } ∧
      u.rbl = { refTime := s.rbl.refTime, timeLost := false, losslessSeen := false } ∧
      (∀ n : Fin 4, u.counters[n] =
        { s.counters[n] with
          value := s.counters[n].constant, pending := none, state := .idle, tickPending := false }) ∧
      u.rw = { s.rw with
        writer := if s.rw.outstanding.isSome then .abandoning else .idle, written := 0, placement := none } ∧
      u.mpa = { s.mpa with passOver := 0 } ∧ (∀ c : Fin 4, u.au.classes[c] = AlertClass.empty) ∧
      u.au.map = s.au.map ∧
      u = { s with rows := u.rows, fq := u.fq, rqp := u.rqp, hold := u.hold, sc := u.sc, cq := u.cq, rbl := u.rbl,
                   counters := u.counters, rw := u.rw, mpa := u.mpa, au := u.au }

/-- CLEAR (R55): in FAULT the session becomes STOPPED and nothing else changes; elsewhere STATE. -/
def Obligations.ClearCommand : Prop :=
  ∀ s : State, s.mgp.frame = .receiving →
    (s.sc.session = .fault →
      exec .clear s = .next ({ s with sc := { s.sc with session := .stopped } }.answered 0 [0x00#8])) ∧
    (s.sc.session ≠ .fault → exec .clear s = .next (s.answered 0 [0x02#8]))

/-- MARK (R114, R124): STATE outside WATCHING; BUSY, with nothing changed, when its bundle does not fit; else the bundle
is placed (here with the Ring Writer busy). -/
def Obligations.MarkCommand : Prop :=
  ∀ (v : Word) (s : State), s.mgp.frame = .receiving →
    (s.sc.session ≠ .watching → exec (.mark v) s = .next (s.answered 4 [0x02#8])) ∧
    (s.sc.session = .watching → s.cq.room false < wordsIn (bundle s (.mark v)) →
      exec (.mark v) s = .next (s.answered 4 [0x01#8])) ∧
    (s.sc.session = .watching → wordsIn (bundle s (.mark v)) ≤ s.cq.room false → s.rw.writer ≠ .idle → s.atRest →
      ∃ t : State, exec (.mark v) s = .next (t.answered 4 [0x00#8]) ∧
        t.cq = { s.cq with records := s.cq.records ++ bundle s (.mark v), pendingLoss := 0#32 } ∧
        t.rbl = { refTime := s.tb.ticks, timeLost := false, losslessSeen := s.rbl.losslessSeen } ∧
        t = { s with cq := t.cq, rbl := t.rbl, au := t.au })

/-! ### Records, bundles, causes -/

/-- The bundle of a record and its admission (R115, R116, R118, R122): LOSS, lazy GAP, record; admitted whole exactly
when it fits the room, and then the only changes are those of R122 and the cause of R130. -/
def Obligations.AdmissionIsWholeOrNothing : Prop :=
  ∀ (own : Bool) (b : RecordBody) (s : State),
    bundle s b =
      (if s.cq.pendingLoss = 0#32 then []
       else [{ body := .loss s.cq.pendingLoss, timeLost := false, time := 0#20 }]) ++
      (if s.rbl.timeLost then [{ body := markSeen s.rbl.losslessSeen b, timeLost := true, time := 0#20 }]
       else
        (if 1048576 ≤ (s.tb.ticks - s.rbl.refTime).toNat then
           [{ body := .gap, timeLost := false,
              time := BitVec.ofNat 20 ((s.tb.ticks - s.rbl.refTime).toNat / 1048576) }]
         else []) ++
        [{ body := markSeen s.rbl.losslessSeen b, timeLost := false,
           time := BitVec.ofNat 20 ((s.tb.ticks - s.rbl.refTime).toNat % 1048576) }]) ∧
    (128 - s.cq.occupancy - (if own then 0 else s.cq.claim.getD 0) < wordsIn (bundle s b) → admitBundle own b s = none) ∧
    (wordsIn (bundle s b) ≤ 128 - s.cq.occupancy - (if own then 0 else s.cq.claim.getD 0) →
      ∃ t, admitBundle own b s = some t ∧ t.cq.records = s.cq.records ++ bundle s b ∧ t.cq.pendingLoss = 0#32 ∧
        t.cq.lossCount = s.cq.lossCount ∧ t.cq.claim = (if own then none else s.cq.claim) ∧
        t.rbl.refTime = s.tb.ticks ∧ t.rbl.timeLost = false ∧
        t.rbl.losslessSeen = (s.rbl.losslessSeen && !b.isHit) ∧
        t.au = (if s.cq.occupancy < 96 ∧ 96 ≤ t.cq.occupancy then (raiseMapped .queueUrgent 0 s).au else s.au) ∧
        t = { s with cq := t.cq, rbl := t.rbl, au := t.au })

/-- A record's words (R104, TABLE 11.17 to TABLE 11.19): as many as its length, the header first, whose fields are the
kind, the length, the time-lost flag, the info field and the time; then the words of its kind, those of a HIT record
with every field of TABLE 11.18. A STOP record's info and index for the reasons NONE and FAULT, which none carries, are
the model's choice (assumption 33). A run of words is cut into bursts (R141): the bursts write those words, in order, at
consecutive words from the run's address; each has 1, 2, 4 or 8 words and is aligned to its length; and each is the
largest of 8, 4, 2 and 1 that the words left and the address allow. -/
def Obligations.RecordWordsAndBursts : Prop :=
  (∀ r : Record, r.words.length = r.length ∧ r.words.head? = some r.header ∧
    (r.header.extractLsb' 28 4 = r.body.kindCode) ∧ (r.length ≤ 12 → (r.header.extractLsb' 24 4).toNat = r.length) ∧
    r.header.getLsbD 23 = r.timeLost ∧ r.header.extractLsb' 0 20 = r.time ∧
    (r.header.extractLsb' 20 3).toNat =
      (match r.body with
       | .start _ level => level.val
       | .stop _ reason => reason.code
       | .expiry n => n.val
       | _ => 0)) ∧
  (∀ r : Record,
    (∀ time level, r.body = .start time level → r.words = [r.header, time]) ∧
    (∀ time reason, r.body = .stop time reason → ∃ w : Word, r.words = [r.header, time, w] ∧
      w.toNat = (match reason with | .entry n => n.val | .counter n => n.val | _ => 0)) ∧
    (∀ count, r.body = .loss count → r.words = [r.header, count]) ∧
    (∀ old new cause index, r.body = .level old new cause index → index < 16 → ∃ w : Word, r.words = [r.header, w] ∧
      w.toNat = 16777216 * old.val + 65536 * new.val + 256 * cause.code + index) ∧
    (∀ value, r.body = .mark value → r.words = [r.header, value]) ∧
    ((r.body = .gap ∨ r.body = .wrap ∨ ∃ n, r.body = .expiry n) → r.words = [r.header])) ∧
  (∀ (r : Record) (h : HitRecord), r.body = .hit h → ∃ w3 w4 : Word,
    r.words = r.header :: h.address :: w3 :: w4 :: h.data ∧ w3.extractLsb' 16 16 = h.hitSet ∧
    (w3.extractLsb' 13 3).toNat = h.tag.val ∧ w3.getLsbD 12 = decide (h.kind = .write) ∧
    (w3.extractLsb' 10 2).toNat = h.size.code ∧ (h.beats ∈ [1, 2, 4, 8] → 2 ^ (w3.extractLsb' 8 2).toNat = h.beats) ∧
    (w3.extractLsb' 6 2).toNat = h.level.val ∧ w3.extractLsb' 0 6 = 0#6 ∧
    (w4.extractLsb' 28 4).toNat = h.disposition.code ∧ w4.getLsbD 27 = h.late ∧ w4.getLsbD 26 = h.memError ∧
    w4.getLsbD 25 = h.holdRefused ∧ w4.getLsbD 24 = h.losslessTimeout ∧
    (h.data.length ≤ 8 → (w4.extractLsb' 20 4).toNat = h.data.length) ∧ w4.extractLsb' 16 4 = 0#4 ∧
    (h.elapsed ≤ 65535 → (w4.extractLsb' 0 16).toNat = h.elapsed)) ∧
  (∀ (a : Word) (ws : List Word), a.toNat % 4 = 0 → a.toNat + 4 * ws.length ≤ 4294967296 →
    (cutRun a ws).flatMap (fun b => b.words.zipIdx.map fun x => (b.address.toNat + 4 * x.2, x.1)) =
      ws.zipIdx.map (fun x => (a.toNat + 4 * x.2, x.1)) ∧
    ∀ b ∈ cutRun a ws, b.words.length ∈ [1, 2, 4, 8] ∧ b.address.toNat % (4 * b.words.length) = 0) ∧
  (∀ (a : Word) (ws : List Word), a.toNat % 4 = 0 → ws ≠ [] →
    ∃ k ∈ [8, 4, 2, 1], k ≤ ws.length ∧ a.toNat % (4 * k) = 0 ∧
      (∀ j ∈ [8, 4, 2, 1], j ≤ ws.length → a.toNat % (4 * j) = 0 → j ≤ k) ∧
      cutRun a ws =
        { address := a, words := ws.take k } :: cutRun (a + BitVec.ofNat 32 (4 * k)) (ws.drop k))

/-- Where the head record goes (R138, R139, R140), with w the words up to LIMIT, L the record's length, and the used
and free space of R136: the address each run of a placement starts at, and where WRITE stands after it (R141, R143).
The Ring Writer takes the head record exactly under R137's conditions. When the ring is finished (R140, R132), RING_DONE
is set, the queue is discarded and counted, the cause is raised, and a stop request is taken in WATCHING, the records of
released writes being counted too; what is offered afterwards is counted. The last clause is a MARK whose record finds
the ring finished, with nothing owed and nothing waiting, so that STOPPING ends in the same step (R51, R52;
assumption 7), no expiry stands (assumption 29), and no row keeps a candidate, not even an ORPHAN one (assumption 31). -/
def Obligations.PlacementOfTheHeadRecord : Prop :=
  (∀ (r : RingWriter) (h : Record) (w used free : Nat), r.described → r.holds r.write → r.holds r.read →
    w = (r.limit.toNat - r.write.toNat) / 4 →
    used = (if r.read.toNat ≤ r.write.toNat then (r.write.toNat - r.read.toNat) / 4
            else r.size - (r.read.toNat - r.write.toNat) / 4) →
    free = r.size - used - 1 →
    (r.mode = .once → h.length < w →
      r.choose h = .write
        { wrapAlone := false, bursts := cutRun r.write h.words,
          newWrite := r.write + BitVec.ofNat 32 (4 * h.length) }) ∧
    (r.mode = .once → w ≤ h.length → r.choose h = .finished) ∧
    (r.mode = .loop → h.length ≤ w → h.length ≤ free →
      r.choose h = .write
        { wrapAlone := false, bursts := cutRun r.write h.words,
          newWrite := if h.length = w then r.base else r.write + BitVec.ofNat 32 (4 * h.length) }) ∧
    (r.mode = .loop → h.length ≤ w → free < h.length → r.choose h = .waitSpace) ∧
    (r.mode = .loop → w < h.length → w + h.length ≤ r.size - 1 → w + h.length ≤ free →
      r.choose h = .write
        { wrapAlone := false,
          bursts := { address := r.write, words := [0xF1000000#32] } :: cutRun r.base h.words,
          newWrite := r.base + BitVec.ofNat 32 (4 * h.length) }) ∧
    (r.mode = .loop → w < h.length → w + h.length ≤ r.size - 1 → free < w + h.length → r.choose h = .waitSpace) ∧
    (r.mode = .loop → w < h.length → r.size - 1 < w + h.length → w ≤ free →
      r.choose h = .write
        { wrapAlone := true, bursts := [{ address := r.write, words := [0xF1000000#32] }], newWrite := r.base }) ∧
    (r.mode = .loop → w < h.length → r.size - 1 < w + h.length → free < w → r.choose h = .waitSpace)) ∧
  (∀ s : State,
    ((s.rw.writer ≠ .idle ∨ s.sc.session ∉ [.watching, .stopping] ∨ s.cq.records = [] ∨ s.rw.ringDone = true) →
      takeHead s = s) ∧
    (∀ (h : Record) (rest : List Record) (t : State), s.rw.writer = .idle → s.sc.session ∈ [.watching, .stopping] →
      s.cq.records = h :: rest → s.rw.ringDone = false →
      t = { s with
            rw := { s.rw with ringDone := true },
            cq := { records := [], lossCount := satAdd s.cq.lossCount s.cq.records.length, pendingLoss := 0#32,
                    claim := none },
            au := (raiseMapped .ringDone 0 s).au } →
      (∀ p : Placement, s.rw.choose h = .write p →
        takeHead s = { s with rw := { s.rw with writer := .writing, written := 0, placement := some p } }) ∧
      (s.rw.choose h = .waitSpace → takeHead s = { s with rw := { s.rw with writer := .waitSpace } }) ∧
      (s.rw.choose h = .finished → s.sc.session = .stopping → takeHead s = t) ∧
      (s.rw.choose h = .finished → s.sc.session = .watching → s.pathSound →
        ∃ u : State, takeHead s = u ∧ u.sc = { s.sc with session := .stopping, reason := .ringDone } ∧
          u.fq = s.fq ++ s.hold.slots.toList.filterMap (fun p => p.map (·.tag)) ∧
          (∀ n : Fin 2, u.hold.slots[n] = none) ∧
          u.cq.lossCount = satAdd t.cq.lossCount (s.hold.slots.toList.filter fun p => p.any fun p =>
            s.rows[p.tag].owed && decide (s.rows[p.tag].kind = .write)).length ∧
          u = { t with
                sc := u.sc, fq := u.fq, rows := u.rows, counters := u.counters,
                hold := { s.hold with slots := u.hold.slots },
                cq := { t.cq with lossCount := u.cq.lossCount } })) ∧
    (∀ (own : Bool) (b : RecordBody), s.rw.ringDone = true →
      offer own b s = { s with cq := { s.cq with lossCount := satAdd s.cq.lossCount 1 } })) ∧
  (∀ (v : Word) (s : State) (h : Record) (rest : List Record), s.mgp.frame = .receiving → s.atRest →
    s.sc.session = .watching → s.rqp.acceptance = .idle → (∀ n : Fin 2, s.hold.slots[n] = none) →
    (∀ n : Fin 8, s.rows[n].state ≠ .responding) → s.someOwes = false → s.sc.stopRecord = .notDue →
    s.rw.ringDone = false → s.rw.writer = .idle → s.rw.outstanding = none → s.cq.records = [] → s.cq.claim = none →
    bundle s (.mark v) = h :: rest → s.rw.choose h = .finished →
    exec (.mark v) s =
      .next (State.answered
        { s with
          sc := { s.sc with session := .stopped, reason := .ringDone, stopRecord := .placed },
          rows := mapVec (fun r => { r with late := 0#16 }) s.rows,
          counters := mapVec (fun c => { c with tickPending := false }) s.counters,
          rw := { s.rw with ringDone := true },
          cq := { records := [], lossCount := satAdd s.cq.lossCount ((h :: rest).length + 1), pendingLoss := 0#32,
                  claim := none },
          rbl := { s.rbl with refTime := s.tb.ticks, timeLost := false },
          au := (raiseMapped .sessionStopped 0 (raiseMapped .ringDone 0 s)).au } 4 [0x00#8]))

/-- A raised cause (R157, R159): not raised without a class; else it coalesces, is appended, or is dropped with the
overflow flag set, and no other class and nothing else changes. -/
def Obligations.RaisingACause : Prop :=
  ∀ (c : Fin 4) (k : CauseKind) (i : Nat) (s : State),
    raise none k i s = s ∧
    (∀ (x : Cause) (before after : List Cause), s.alertsSound →
      s.au.classes[c].causes = before ++ x :: after → x.kind = k → x.index = i →
      raise (some c) k i s =
        s.withClass c { s.au.classes[c] with
          causes := before ++ ({ x with count := if x.count = 255 then 255 else x.count + 1 } : Cause) :: after }) ∧
    ((∀ x ∈ s.au.classes[c].causes, x.kind ≠ k ∨ x.index ≠ i) → s.au.classes[c].causes.length < 4 →
      raise (some c) k i s =
        s.withClass c { s.au.classes[c] with
          causes := s.au.classes[c].causes ++ [{ kind := k, index := i, count := 1 }] }) ∧
    ((∀ x ∈ s.au.classes[c].causes, x.kind ≠ k ∨ x.index ≠ i) → 4 ≤ s.au.classes[c].causes.length →
      raise (some c) k i s = s.withClass c { s.au.classes[c] with overflow := true })

/-- ALERT, ACK and DONE (R160, R162, R163). A class is eligible when its list is not empty and no class of its number
or a lower one is in service. -/
def Obligations.AlertAckAndDone : Prop :=
  ∀ s : State,
    (s.au.alert = true ↔
      ∃ c : Fin 4, s.au.classes[c].causes ≠ [] ∧ ∀ d : Fin 4, d ≤ c → s.au.classes[d].inService = false) ∧
    (s.mgp.frame = .receiving → s.au.alert = false →
      exec .ack s = .next (s.answered 0 [0x06#8, 0#8, 0#8, 0#8, 0#8])) ∧
    (∀ (c : Fin 4) (x : Cause) (rest : List Cause), s.mgp.frame = .receiving →
      s.au.classes[c].causes = x :: rest → (∀ d : Fin 4, d ≤ c → s.au.classes[d].inService = false) →
      (∀ d : Fin 4, d < c → s.au.classes[d].causes = []) →
      (s.withClass c { causes := rest, overflow := false, inService := true }).au.alert = false ∧
      exec .ack s =
        .next ((s.withClass c { causes := rest, overflow := false, inService := true }).answered 0
          [0x00#8, BitVec.ofNat 8 (c.val + if s.au.classes[c].overflow then 128 else 0),
           BitVec.ofNat 8 x.kind.code, BitVec.ofNat 8 x.index, BitVec.ofNat 8 x.count])) ∧
    (s.mgp.frame = .receiving → (∀ c : Fin 4, s.au.classes[c].inService = false) →
      exec .done s = .next (s.answered 0 [0x07#8])) ∧
    (∀ c : Fin 4, s.mgp.frame = .receiving → s.au.classes[c].inService = true →
      (∀ d : Fin 4, d < c → s.au.classes[d].inService = false) →
      exec .done s =
        .next ((s.withClass c { s.au.classes[c] with inService := false }).answered 0 [0x00#8]))

/-! ### READPTR and RELEASE -/

/-- READPTR (R145, R146): STATE, then BADARG twice, each changing nothing; else READ becomes v and the watermark is
armed when the used space falls below it, and nothing else changes unless the Ring Writer waits for space. One that
waits forms the placement again. -/
def Obligations.ReadptrCommand : Prop :=
  ∀ (v : Word) (s : State) (far used : Nat), s.mgp.frame = .receiving →
    (s.sc.session = .off ∨ s.rw.mode = .once → exec (.readptr v) s = .next (s.answered 4 [0x02#8])) ∧
    (s.sc.session ≠ .off → s.rw.mode = .loop → ¬s.rw.holds v →
      exec (.readptr v) s = .next (s.answered 4 [0x03#8])) ∧
    (s.sc.session ≠ .off → s.rw.mode = .loop → s.rw.described → s.rw.holds v → s.rw.holds s.rw.read →
      s.rw.holds s.rw.write →
      far = (if s.rw.read.toNat ≤ v.toNat then (v.toNat - s.rw.read.toNat) / 4
             else s.rw.size - (s.rw.read.toNat - v.toNat) / 4) →
      used = (if s.rw.read.toNat ≤ s.rw.write.toNat then (s.rw.write.toNat - s.rw.read.toNat) / 4
              else s.rw.size - (s.rw.read.toNat - s.rw.write.toNat) / 4) →
      (used < far → exec (.readptr v) s = .next (s.answered 4 [0x03#8])) ∧
      (far ≤ used → s.rw.writer ≠ .waitSpace → s.noGrant = true →
        exec (.readptr v) s =
          .next ({ s with rw := { s.rw with
            read := v, armed := s.rw.armed || decide (used - far < s.rw.watermark) } }.answered 4 [0x00#8])) ∧
      (far ≤ used → s.rw.writer = .waitSpace →
        exec (.readptr v) s =
          .next ((arbitrate (formPlacement { s with rw := { s.rw with
            read := v, armed := s.rw.armed || decide (used - far < s.rw.watermark) } })).answered 4 [0x00#8])))

/-- The refusals of RELEASE, in the order of R168 and R87, each changing nothing: a word count above 8, a slot or
disposition code that names none, STALE, ILLEGAL, a word count that does not suit. -/
def Obligations.ReleaseRefusals : Prop :=
  ∀ (slot ticket code count : Byte) (words : List Word) (s : State), s.mgp.frame = .receiving →
    (8 < count.toNat → exec (.release slot ticket code count words) s = .next (s.answered 4 [0x03#8])) ∧
    (count.toNat ≤ 8 → words.length = count.toNat →
      (1 < slot.toNat ∨ 4 < code.toNat →
        exec (.release slot ticket code count words) s =
          .next (s.answered (4 + 4 * count.toNat) [0x03#8])) ∧
      (∀ n : Fin 2, slot.toNat = n.val → code.toNat ≤ 4 →
        (s.hold.slots[n] = none →
          exec (.release slot ticket code count words) s =
            .next (s.answered (4 + 4 * count.toNat) [0x05#8])) ∧
        (∀ p : Parked, s.hold.slots[n] = some p →
          (p.ticket ≠ ticket →
            exec (.release slot ticket code count words) s =
              .next (s.answered (4 + 4 * count.toNat) [0x05#8])) ∧
          (p.ticket = ticket → (p.kind = .read ∧ code.toNat ∈ [1, 3] ∨ p.kind = .write ∧ code.toNat = 4) →
            exec (.release slot ticket code count words) s =
              .next (s.answered (4 + 4 * count.toNat) [0x04#8])) ∧
          (p.ticket = ticket → ¬(p.kind = .read ∧ code.toNat ∈ [1, 3] ∨ p.kind = .write ∧ code.toNat = 4) →
            (code.toNat ∈ [1, 4] ∧ count.toNat ≠ p.beats ∨ code.toNat ∉ [1, 4] ∧ count.toNat ≠ 0) →
            exec (.release slot ticket code count words) s =
              .next (s.answered (4 + 4 * count.toNat) [0x03#8])))))

/-- A RELEASE that is taken, of a transaction that owes no record, with the port busy and no request waiting (R88, R89,
R90, TABLE 5.2): the slot is FREE, and the transaction joins the Forward Queue, or is answered and its row is EMPTY
(assumption 24); nothing else changes. That a released write carries REL_FORWARD in its row, and one released with
REPLACE what it carried before, is assumption 13. And a request in the CONFLICT wait (R96): a RELEASE, a HOLD_TIMEOUT, a
STOP or the FAULT of a ring burst does what it does with the Request Port IDLE, and then the request is read again
(assumption 4), so that it is taken when its line is free, behind the tags released, and waits on when it is not. -/
def Obligations.ReleaseCarriedOut : Prop :=
  (∀ (n : Fin 2) (slot ticket code count : Byte) (words : List Word) (c : Instr) (r : Request) (d : Downstream)
    (s t : State),
    c ∈ [.release slot ticket code count words, .holdTimeout n, .stop,
      .memoryResponse { marker := .ring, tag := 0, status := .error, data := [] }] →
    s.rqp.acceptance = .waitConflict r → s.atRest → s.pathSound → s.lines.reset = false → s.lines.prst = false →
    s.rw.writer ≠ .idle → s.mpa.port = .issuing d →
    exec c { s with rqp := { s.rqp with acceptance := .idle } } = .next t →
    exec c s = exec (.request none) { t with rqp := { t.rqp with presented := r :: t.rqp.presented } }) ∧
  ∀ (n : Fin 2) (p : Parked) (slot ticket code count : Byte) (words : List Word) (d : Downstream) (s t : State),
    s.mgp.frame = .receiving → slot.toNat = n.val → s.hold.slots[n] = some p → p.ticket = ticket →
    count.toNat ≤ 8 → words.length = count.toNat → s.rows[p.tag].owed = false → s.rows[p.tag].kind = p.kind →
    s.rows[p.tag].readBuf = [] → s.rows[p.tag].state = .parked → s.rqp.acceptance = .idle → s.atRest →
    s.mpa.port = .issuing d → t = { s with hold := { s.hold with slots := s.hold.slots.set n none } } →
    (code = 0#8 → count = 0#8 →
      exec (.release slot ticket code count words) s =
        .next (State.answered
          { t with rows := s.rows.set p.tag { s.rows[p.tag] with state := .queued, carry := .relForward },
                   fq := s.fq ++ [p.tag] } 4 [0x00#8])) ∧
    (code = 1#8 → p.kind = .write → count.toNat = p.beats →
      exec (.release slot ticket code count words) s =
        .next (State.answered
          { t with rows := s.rows.set p.tag { s.rows[p.tag] with state := .queued, writeData := words },
                   fq := s.fq ++ [p.tag] } (4 + 4 * count.toNat) [0x00#8])) ∧
    (∀ (status : RespStatus) (data : List Word),
      (code = 2#8 ∧ count = 0#8 ∧ status = .error ∧ data = []) ∨
      (code = 3#8 ∧ p.kind = .write ∧ count = 0#8 ∧ status = .okay ∧ data = []) ∨
      (code = 4#8 ∧ p.kind = .read ∧ count.toNat = p.beats ∧ status = .okay ∧ data = words) →
      exec (.release slot ticket code count words) s =
        .next (State.answered
          { t with rows := s.rows.set p.tag Row.empty,
                   rqp := { s.rqp with
                     ready := s.rqp.ready ++ [{ status := status, tag := p.tag, data := data }] } }
          (4 + 4 * count.toNat) [0x00#8]))

/-- The record of a released transaction (R90, R91, R93, R106 to R110), with the Ring Writer busy: placed whole when it
fits, dropped and counted when it does not. A write's is built at the release from the master's data, with the release
disposition. A read's released with SUPPLY or FAIL is built at the release, from the words supplied or without data, and
its response is ready and the row EMPTY (assumption 24). At a HOLD_TIMEOUT a write's record, and under TIMEOUT_FAIL a
read's, is made at the release, and a read forwarded keeps its debt; a forwarded write carries TIMEOUT_FORWARD too
(assumption 13). -/
def Obligations.ReleasedWriteRecord : Prop :=
  (∀ (n : Fin 2) (p : Parked) (slot ticket code count : Byte) (words data : List Word) (d : Disposition)
    (status : RespStatus) (h : HitRecord) (x : Row) (port : Downstream) (s : State),
    s.mgp.frame = .receiving → slot.toNat = n.val → s.hold.slots[n] = some p → p.ticket = ticket →
    count.toNat ≤ 8 → words.length = count.toNat → p.kind = .read → x = s.rows[p.tag] → x.kind = .read →
    x.owed = true → x.state = .parked → x.readBuf = [] → s.rqp.acceptance = .idle → s.sc.session = .watching →
    s.atRest → s.rw.ringDone = false → s.rw.writer ≠ .idle → s.mpa.port = .issuing port →
    ((code = 2#8 ∧ count = 0#8 ∧ d = .relFail ∧ status = .error ∧ data = []) ∨
      (code = 4#8 ∧ count.toNat = p.beats ∧ d = .relSupply ∧ status = .okay ∧ data = words)) →
    h = { address := x.address, hitSet := x.hits, tag := p.tag, kind := .read, size := x.size, beats := x.beats,
          level := x.arrivalLevel, disposition := d, late := (x.hits &&& ~~~x.early) != 0#16, memError := false,
          holdRefused := false, losslessTimeout := false,
          elapsed := min 65535 (s.tb.ticks - x.takingTime).toNat,
          data := match x.option with
            | .none => []
            | .first => data.take 1
            | .all => data.take x.beats } →
    ∃ t : State, exec (.release slot ticket code count words) s = .next (t.answered (4 + 4 * count.toNat) [0x00#8]) ∧
      (if wordsIn (bundle s (.hit h)) ≤ s.cq.room false then
         t.cq = { s.cq with records := s.cq.records ++ bundle s (.hit h), pendingLoss := 0#32 }
       else
         t.cq = { s.cq with lossCount := satAdd s.cq.lossCount 1, pendingLoss := satAdd s.cq.pendingLoss 1 }) ∧
      t = { s with
            hold := { s.hold with slots := s.hold.slots.set n none },
            rows := s.rows.set p.tag Row.empty,
            rqp := { s.rqp with ready := s.rqp.ready ++ [{ status := status, tag := p.tag, data := data }] },
            cq := t.cq, rbl := t.rbl, au := t.au }) ∧
  (∀ (n : Fin 2) (p : Parked) (d : Disposition) (h : HitRecord) (x : Row) (port : Downstream) (s : State),
    s.hold.slots[n] = some p → s.hold.limit ≠ 0#24 → s.hold.limit.toNat ≤ (s.tb.ticks - p.parkTime).toNat →
    x = s.rows[p.tag] → x.owed = true → x.state = .parked → x.readBuf = [] → s.rqp.acceptance = .idle →
    s.sc.session = .watching → s.atRest → s.rw.ringDone = false → s.rw.writer ≠ .idle → s.mpa.port = .issuing port →
    d = (if s.hold.timeoutFail then .timeoutFail else .timeoutForward) →
    h = { address := x.address, hitSet := x.hits, tag := p.tag, kind := x.kind, size := x.size, beats := x.beats,
          level := x.arrivalLevel, disposition := d, late := (x.hits &&& ~~~x.early) != 0#16, memError := false,
          holdRefused := false, losslessTimeout := false,
          elapsed := min 65535 (s.tb.ticks - x.takingTime).toNat,
          data := match x.kind, x.option with
            | .write, .first => x.writeData.take 1
            | .write, .all => x.writeData.take x.beats
            | _, _ => [] } →
    ((x.kind = .write ∨ s.hold.timeoutFail = true) →
      ∃ t : State, exec (.holdTimeout n) s = .next t ∧
        (if wordsIn (bundle s (.hit h)) ≤ s.cq.room false then
           t.cq = { s.cq with records := s.cq.records ++ bundle s (.hit h), pendingLoss := 0#32 }
         else
           t.cq = { s.cq with lossCount := satAdd s.cq.lossCount 1, pendingLoss := satAdd s.cq.pendingLoss 1 }) ∧
        (s.hold.timeoutFail = false →
          t.rows = s.rows.set p.tag { x with state := .queued, carry := .timeoutForward, owed := false } ∧
            t.fq = s.fq ++ [p.tag] ∧ t.rqp = s.rqp) ∧
        (s.hold.timeoutFail = true →
          t.rows = s.rows.set p.tag Row.empty ∧ t.fq = s.fq ∧
            t.rqp = { s.rqp with ready := s.rqp.ready ++ [{ status := .error, tag := p.tag, data := [] }] }) ∧
        t = { s with
              hold := { s.hold with slots := s.hold.slots.set n none },
              rows := t.rows, fq := t.fq, rqp := t.rqp, cq := t.cq, rbl := t.rbl, au := t.au }) ∧
    (x.kind = .read → s.hold.timeoutFail = false →
      exec (.holdTimeout n) s =
        .next { s with
          hold := { s.hold with slots := s.hold.slots.set n none },
          rows := s.rows.set p.tag { x with state := .queued, carry := .timeoutForward },
          fq := s.fq ++ [p.tag],
          au := (raise s.hold.holdClass .holdTimeout n.val s).au })) ∧
  ∀ (n : Fin 2) (p : Parked) (slot ticket code count : Byte) (words : List Word) (d : Disposition) (h : HitRecord)
    (s : State),
    s.mgp.frame = .receiving → slot.toNat = n.val → s.hold.slots[n] = some p → p.ticket = ticket →
    count.toNat ≤ 8 → words.length = count.toNat → p.kind = .write → s.rows[p.tag].kind = .write →
    s.rows[p.tag].owed = true → s.rqp.acceptance = .idle → s.sc.session = .watching → s.atRest →
    s.rw.ringDone = false → s.rw.writer ≠ .idle →
    ((code = 0#8 ∧ count = 0#8 ∧ d = .relForward) ∨ (code = 1#8 ∧ count.toNat = p.beats ∧ d = .relReplace) ∨
      (code = 2#8 ∧ count = 0#8 ∧ d = .relFail) ∨ (code = 3#8 ∧ count = 0#8 ∧ d = .relAbsorb)) →
    h.address = s.rows[p.tag].address → h.hitSet = s.rows[p.tag].hits → h.tag = p.tag → h.kind = .write →
    h.size = s.rows[p.tag].size → h.beats = s.rows[p.tag].beats → h.level = s.rows[p.tag].arrivalLevel →
    h.disposition = d → h.late = (s.rows[p.tag].hits &&& ~~~s.rows[p.tag].early != 0#16) → h.memError = false →
    h.holdRefused = false → h.losslessTimeout = false →
    h.elapsed = min 65535 (s.tb.ticks - s.rows[p.tag].takingTime).toNat →
    h.data = (match s.rows[p.tag].option with
      | .none => []
      | .first => s.rows[p.tag].writeData.take 1
      | .all => s.rows[p.tag].writeData.take s.rows[p.tag].beats) →
    ∃ t : State, exec (.release slot ticket code count words) s = .next (t.answered (4 + 4 * count.toNat) [0x00#8]) ∧
      t.hold.slots[n] = none ∧ t.rows[p.tag].owed = false ∧
      (if wordsIn (bundle s (.hit h)) ≤ s.cq.room false then
         t.cq.records = s.cq.records ++ bundle s (.hit h) ∧ t.cq.lossCount = s.cq.lossCount
       else t.cq.records = s.cq.records ∧ t.cq.lossCount = satAdd s.cq.lossCount 1)

/-! ### Requests and the early match -/

/-- What the Request Port does with a request it reads and does not take (R26, R27, R31, R32, R95): a duplicate is
discarded, a malformed request answered ERROR, one whose row is ORPHAN or whose line is covered waits. A request that
is presented while none can be read stands behind the others (assumption 4). What malformed means, and that a request
that is not lies in one line. -/
def Obligations.RequestsNotTaken : Prop :=
  (∀ (r : Request) (s : State),
    (s.readyFor → s.rows[r.tag].state ∈ [.deciding, .queued, .issued, .parked, .responding] →
      exec (.request (some r)) s = .next (raiseMapped .portError r.tag.val s)) ∧
    (s.readyFor → s.rows[r.tag].state ∈ [.empty, .orphan] → malformed r = true →
      exec (.request (some r)) s =
        .next (raiseMapped .portError r.tag.val
          { s with rqp := { s.rqp with
            ready := s.rqp.ready ++ [{ status := .error, tag := r.tag, data := [] }] } })) ∧
    (s.readyFor → s.rows[r.tag].state = .orphan → malformed r = false →
      exec (.request (some r)) s = .next { s with rqp := { s.rqp with acceptance := .waitOrphan r } }) ∧
    (s.readyFor → s.rows[r.tag].state = .empty → malformed r = false → s.covered r.address = true →
      exec (.request (some r)) s = .next { s with rqp := { s.rqp with acceptance := .waitConflict r } }) ∧
    (s.mayRead = false →
      exec (.request (some r)) s = .next { s with rqp := { s.rqp with presented := s.rqp.presented ++ [r] } })) ∧
  (∀ (a : Word) (s : State), s.covered a = true ↔
    ∃ (n : Fin 2) (p : Parked), s.hold.slots[n] = some p ∧ p.kind = .write ∧ p.address.toNat / 32 = a.toNat / 32) ∧
  (∀ r : Request, 1 ≤ r.beats → r.beats ≤ 8 →
    (malformed r = true ↔
      (r.beats ∈ [3, 5, 6, 7] ∨ (1 < r.beats ∧ r.size ∈ [0#2, 1#2]) ∨
        (r.beats = 1 ∧ r.size = 1#2 ∧ r.address.toNat % 2 = 1) ∨
        (r.beats = 1 ∧ r.size = 2#2 ∧ r.address.toNat % 4 ≠ 0) ∨
        (1 < r.beats ∧ r.address.toNat % (4 * r.beats) ≠ 0) ∨ r.size = 3#2)) ∧
    (malformed r = false → ∀ k < spanBytes r.beats (requestSize r),
      (r.address.toNat + k) / 32 = r.address.toNat / 32))

/-- A request taken while the session is not WATCHING (R7, R33, R34, R40): its row takes the request's fields and no
hit, and the tag joins the Forward Queue, or goes to memory at once when the port is READY. -/
def Obligations.PassThroughRequest : Prop :=
  ∀ (r : Request) (q : Row) (s : State), s.readyFor → s.sc.session ≠ .watching → s.rows[r.tag] = Row.empty →
    malformed r = false → s.covered r.address = false →
    q = { Row.empty with
          kind := r.kind, address := r.address, size := requestSize r, beats := r.beats,
          writeData := if r.kind = .write then r.data else [], arrivalLevel := s.sc.level,
          takingTime := s.tb.ticks } →
    (∀ d : Downstream, s.mpa.port = .issuing d →
      exec (.request (some r)) s =
        .next { s with rows := s.rows.set r.tag { q with state := .queued }, fq := s.fq ++ [r.tag] }) ∧
    (s.mpa.port = .ready →
      exec (.request (some r)) s =
        .next { s with rows := s.rows.set r.tag { q with state := .issued },
                       mpa := { s.mpa with
                         port := .issuing { marker := .forwarded, tag := r.tag, kind := r.kind, address := r.address,
                                            size := requestSize r, beats := r.beats, data := q.writeData } } })

/-- The data test of one beat, bit by bit (R10), over the enabled lanes of the request (R24). -/
def Obligations.DataTestOfABeat : Prop :=
  ∀ (p : Pattern) (a beat : Word) (beats : Nat) (size : Size) (enabled : Nat → Prop),
    a.toNat % size.bytes = 0 →
    (∀ lane, enabled lane ↔
      (beats ≠ 1 ∨ size = .word ∨ (size = .half ∧ lane / 2 = a.toNat % 4 / 2) ∨
        (size = .byte ∧ lane = a.toNat % 4))) →
    (p.matches (laneMask a beats size) beat = true ↔
      (∃ i : Fin 32, p.care.getLsbD i.val = true ∧ enabled (i.val / 8)) ∧
      ∀ i : Fin 32, p.care.getLsbD i.val = true → enabled (i.val / 8) →
        beat.getLsbD i.val = p.compare.getLsbD i.val)

/-- The early criteria (R8, R9), the early hit set (R11) and the late candidate set (R12). -/
def Obligations.EarlyMatchCriteria : Prop :=
  ∀ (entries : Vector Entry 16) (r : Request) (level : Fin 4) (n : Fin 16),
    malformed r = false → entries[n].low.toNat ≤ entries[n].high.toNat →
    (entries[n].meetsEarly r level = true ↔
      entries[n].enabled = true ∧
      (entries[n].direction = .either ∨ (entries[n].direction = .read ∧ r.kind = .read) ∨
        (entries[n].direction = .write ∧ r.kind = .write)) ∧
      (∃ k, k < spanBytes r.beats (requestSize r) ∧ entries[n].low.toNat ≤ r.address.toNat + k ∧
        r.address.toNat + k ≤ entries[n].high.toNat) ∧
      entries[n].tags.getLsbD r.tag.val = true ∧ entries[n].levels.getLsbD level.val = true) ∧
    ((earlySet entries r level).getLsbD n.val = true ↔
      entries[n].meetsEarly r level = true ∧
      (entries[n].pattern = none ∨
        ∃ p, entries[n].pattern = some p ∧ r.kind = .write ∧
          ∃ beat ∈ r.data, p.matches (laneMask r.address r.beats (requestSize r)) beat = true)) ∧
    ((candidateSet entries r level).getLsbD n.val = true ↔
      entries[n].meetsEarly r level = true ∧ entries[n].pattern ≠ none ∧ r.kind = .read)

/-- The combined outcome of a hit set `e` (R16 to R20): disposition, record owed, lossless flag, merged option (from
any previous value, as at a late hit, R15), causes, counter notices, level, stop. -/
def Obligations.CombinedOutcome : Prop :=
  ∀ (entries : Vector Entry 16) (e : BitVec 16) (hit : Fin 16 → Prop), (∀ n, hit n ↔ e.getLsbD n.val = true) →
    (∀ n, hit n → entries[n].dispose = .block → (∀ m < n, hit m → entries[m].dispose ≠ .block) →
      verdictOf entries e = .block entries[n].blockStatus) ∧
    (∀ n, (∀ m, hit m → entries[m].dispose ≠ .block) → hit n → entries[n].dispose = .hold →
      (∀ m < n, hit m → entries[m].dispose ≠ .hold) → verdictOf entries e = .hold n) ∧
    ((∀ n, hit n → entries[n].dispose = .none) → verdictOf entries e = .forward) ∧
    (owesRecord entries e = true ↔ ∃ n, hit n ∧ entries[n].capture = true) ∧
    (wantsLossless entries e = true ↔ ∃ n, hit n ∧ entries[n].capture = true ∧ entries[n].lossless = true) ∧
    ((∀ n, hit n → entries[n].capture = false) → ∀ previous, mergedOption entries e previous = previous) ∧
    ((∃ n, hit n ∧ entries[n].capture = true) →
      (∃ n, hit n ∧ entries[n].capture = true ∧ mergedOption entries e .none = entries[n].dataOption) ∧
      ∀ n, hit n → entries[n].capture = true →
        entries[n].dataOption.code ≤ (mergedOption entries e .none).code) ∧
    (∀ previous,
      (mergedOption entries e previous = previous ∨
        ∃ n, hit n ∧ entries[n].capture = true ∧ mergedOption entries e previous = entries[n].dataOption) ∧
      previous.code ≤ (mergedOption entries e previous).code ∧
      ∀ n, hit n → entries[n].capture = true →
        entries[n].dataOption.code ≤ (mergedOption entries e previous).code) ∧
    (∀ n c, (n, c) ∈ alertsOf entries e ↔ hit n ∧ entries[n].alert = some c) ∧
    ((alertsOf entries e).map fun x => x.1).Pairwise (· < ·) ∧
    (∀ k : Fin 4, (linksOf entries e).getLsbD k.val = true ↔ ∃ n, hit n ∧ entries[n].link = some k) ∧
    (∀ n v, hit n → entries[n].nextLevel = some v → (∀ m < n, hit m → entries[m].nextLevel = none) →
      levelOf entries e = some (n, v)) ∧
    ((∀ n, hit n → entries[n].nextLevel = none) → levelOf entries e = none) ∧
    (∀ n, hit n → entries[n].stop = true → (∀ m < n, hit m → entries[m].stop = false) →
      stopOf entries e = some n) ∧
    ((∀ n, hit n → entries[n].stop = false) → stopOf entries e = none)

/-- A request taken while the session is WATCHING, with the port busy (R20, R21, R33, R34, R80, R81, R83 to R86). First,
its hits ask for nothing beyond totals, causes and a disposition: the totals and the ENTRY_HIT causes, and then the row
QUEUED; the BLOCK response, the row EMPTY (assumption 24); the park, with its ticket and its PARKED cause; or the refused
hold. Nothing else changes. Then steps 3 to 5 of R20, the hits owing no record and the Ring Writer busy: a level request
with its LEVEL record (R57, R60); counter notices with the group of counters that expire (R19, R73, R77); a stop, of a
request forwarded and of one parked and at once released (R48, R84, R97), here with nothing else parked and some row
owing a record, so that STOPPING lasts; and a HOLD attempt that a counter's stop has put outside WATCHING (R78, R86). A
released write too carries STOP_FORWARD (assumption 13), and after a stop no expiry stands (assumption 29)
and no row keeps a candidate, not even an ORPHAN one (assumption 31). -/
def Obligations.WatchedRequestDecided : Prop :=
  (∀ (r : Request) (e : BitVec 16) (q : Row) (d : Downstream) (s u : State), s.readyFor → s.sc.session = .watching →
    s.rows[r.tag] = Row.empty → malformed r = false → s.covered r.address = false → s.mpa.port = .issuing d →
    e = earlySet s.entries r s.sc.level → plainHits s.entries e →
    q = { Row.empty with
          kind := r.kind, address := r.address, size := requestSize r, beats := r.beats,
          writeData := if r.kind = .write then r.data else [], arrivalLevel := s.sc.level,
          takingTime := s.tb.ticks, early := e, late := candidateSet s.entries r s.sc.level, hits := e } →
    u = raiseHits (alertsOf s.entries e) (countHits e s) →
    (verdictOf s.entries e = .forward →
      exec (.request (some r)) s =
        .next { u with rows := s.rows.set r.tag { q with state := .queued }, fq := s.fq ++ [r.tag] }) ∧
    (∀ status : RespStatus, verdictOf s.entries e = .block status →
      exec (.request (some r)) s =
        .next { u with rqp := { s.rqp with
          ready := s.rqp.ready ++
            [{ status := status, tag := r.tag,
               data := if r.kind = .read ∧ status = .okay then List.replicate r.beats 0#32 else [] }] } }) ∧
    (∀ n : Fin 16, verdictOf s.entries e = .hold n →
      (∀ (k : Fin 2) (ticket : Byte) (p : Parked), (∀ j < k, s.hold.slots[j] ≠ none) → s.hold.slots[k] = none →
        ticket = (if s.hold.slots[1 - k].map (·.ticket) = some (s.hold.ticket + 1#8) then s.hold.ticket + 2#8
                  else s.hold.ticket + 1#8) →
        p = { tag := r.tag, ticket := ticket, parkTime := s.tb.ticks, kind := q.kind, address := q.address,
              size := q.size, beats := q.beats, writeData := q.writeData } →
        exec (.request (some r)) s =
          .next (raise s.hold.holdClass .parked k.val
            { u with
              rows := s.rows.set r.tag { q with state := .parked },
              hold := { s.hold with slots := s.hold.slots.set k (some p), ticket := ticket } })) ∧
      ((∀ k : Fin 2, s.hold.slots[k] ≠ none) →
        exec (.request (some r)) s =
          .next (raiseMapped .holdRefused n.val
            { u with
              rows := s.rows.set r.tag { q with state := .queued, holdRefused := true },
              fq := s.fq ++ [r.tag] })))) ∧
  (∀ (r : Request) (e : BitVec 16) (q : Row) (d : Downstream) (s u : State), s.readyFor → s.sc.session = .watching →
    s.rows[r.tag] = Row.empty → malformed r = false → s.covered r.address = false → s.mpa.port = .issuing d →
    s.rw.ringDone = false → s.rw.writer ≠ .idle → e = earlySet s.entries r s.sc.level →
    owesRecord s.entries e = false →
    q = { Row.empty with
          state := .queued, kind := r.kind, address := r.address, size := requestSize r, beats := r.beats,
          writeData := if r.kind = .write then r.data else [], arrivalLevel := s.sc.level,
          takingTime := s.tb.ticks, early := e, late := candidateSet s.entries r s.sc.level, hits := e } →
    u = { raiseHits (alertsOf s.entries e) (countHits e s) with fq := s.fq ++ [r.tag] } →
    (∀ (n : Fin 16) (v : Fin 4), verdictOf s.entries e = .forward → linksOf s.entries e = 0#4 →
      stopOf s.entries e = none → levelOf s.entries e = some (n, v) →
      ((v = s.sc.level ∨ s.sc.levelRecords = false) →
        exec (.request (some r)) s =
          .next { u with rows := s.rows.set r.tag q, sc := { s.sc with level := v } }) ∧
      (v ≠ s.sc.level → s.sc.levelRecords = true →
        ∃ t : State, exec (.request (some r)) s = .next t ∧
          (if wordsIn (bundle s (.level s.sc.level v .entry n.val)) ≤ s.cq.room false then
             t.cq =
               { s.cq with
                 records := s.cq.records ++ bundle s (.level s.sc.level v .entry n.val), pendingLoss := 0#32 }
           else
             t.cq = { s.cq with lossCount := satAdd s.cq.lossCount 1, pendingLoss := satAdd s.cq.pendingLoss 1 }) ∧
          t = { u with rows := s.rows.set r.tag q, sc := { s.sc with level := v }, cq := t.cq, rbl := t.rbl,
                       au := t.au })) ∧
    (∀ (new : Vector Counter 4) (expired : BitVec 4), verdictOf s.entries e = .forward →
      levelOf s.entries e = none → stopOf s.entries e = none →
      takeEvent { hits := linksOf s.entries e, ticked := false } s.counters = (new, expired) →
      (∀ n : Fin 4, expired.getLsbD n.val = true →
        s.counters[n].nextLevel = none ∧ s.counters[n].stop = false ∧ s.counters[n].record = false) →
      exec (.request (some r)) s =
        .next ((countersIn expired).foldl (fun a (n : Fin 4) => raise s.counters[n].alert .expiry n.val a)
          { u with counters := new, rows := s.rows.set r.tag { q with notified := linksOf s.entries e } })) ∧
    ((∀ n : Fin 2, s.hold.slots[n] = none) → s.someOwes = true → levelOf s.entries e = none →
      (∀ (n : Fin 16) (t : State), linksOf s.entries e = 0#4 → stopOf s.entries e = some n →
        t = { u with
              sc := { s.sc with session := .stopping, reason := .entry n },
              counters := mapVec (fun c => { c with tickPending := false }) s.counters } →
        (verdictOf s.entries e = .forward →
          exec (.request (some r)) s =
            .next { t with
              rows := (mapVec (fun x => { x with late := 0#16 }) s.rows).set r.tag { q with late := 0#16 } }) ∧
        (∀ m : Fin 16, verdictOf s.entries e = .hold m →
          exec (.request (some r)) s =
            .next (raise s.hold.holdClass .parked 0
              { t with
                hold := { s.hold with ticket := s.hold.ticket + 1#8 },
                rows := (mapVec (fun x => { x with late := 0#16 }) s.rows).set r.tag
                  { q with late := 0#16, carry := .stopForward } }))) ∧
      (∀ (m : Fin 16) (c : Fin 4) (new : Vector Counter 4) (expired : BitVec 4), verdictOf s.entries e = .hold m →
        stopOf s.entries e = none →
        takeEvent { hits := linksOf s.entries e, ticked := false } s.counters = (new, expired) →
        (∀ n : Fin 4, expired.getLsbD n.val = true →
          s.counters[n].nextLevel = none ∧ s.counters[n].record = false) →
        expired.getLsbD c.val = true → s.counters[c].stop = true →
        (∀ n < c, expired.getLsbD n.val = true → s.counters[n].stop = false) →
        exec (.request (some r)) s =
          .next ((countersIn expired).foldl (fun a (n : Fin 4) => raise s.counters[n].alert .expiry n.val a)
            { u with
              sc := { s.sc with session := .stopping, reason := .counter c },
              counters := mapVec (fun x => { x with tickPending := false }) new,
              rows := (mapVec (fun x => { x with late := 0#16 }) s.rows).set r.tag
                { q with late := 0#16, notified := linksOf s.entries e, carry := .stopForward } }))))

/-- A write that is forwarded and owes a record (R17, R34, R106 to R110, R122, R123, R126): the record is made at the
decision from the master's data, and placed whole when its bundle fits (here with the Ring Writer busy), else dropped
and counted; the tag joins the Forward Queue all the same. A lossless one for which the room has not its claim size is
taken and waits at the LOSSLESS gate, its hits' actions with it as formed at the match (assumption 12). The record of a
transaction decided BLOCK (R80, R81), a read's or a write's that does not wait: made with BLOCKED, of a write from the
master's data, of a read from the words of zeros it is answered, and placed or dropped; the response is ready and the
row EMPTY (assumption 24). -/
def Obligations.WatchedWriteRecord : Prop :=
  (∀ (r : Request) (e : BitVec 16) (h : HitRecord) (d : Downstream) (q : Row) (s : State), s.readyFor →
    s.sc.session = .watching → s.rows[r.tag] = Row.empty → malformed r = false → s.covered r.address = false →
    s.mpa.port = .issuing d → r.kind = .write → s.rw.ringDone = false → s.rw.writer ≠ .idle →
    e = earlySet s.entries r s.sc.level → linksOf s.entries e = 0#4 → levelOf s.entries e = none →
    stopOf s.entries e = none → verdictOf s.entries e = .forward → owesRecord s.entries e = true →
    h = { address := r.address, hitSet := e, tag := r.tag, kind := .write, size := requestSize r, beats := r.beats,
          level := s.sc.level, disposition := .forwarded, late := false, memError := false, holdRefused := false,
          losslessTimeout := false, elapsed := 0,
          data := match mergedOption s.entries e .none with
            | .none => []
            | .first => r.data.take 1
            | .all => r.data.take r.beats } →
    q = { Row.empty with
          state := .queued, kind := .write, address := r.address, size := requestSize r, beats := r.beats,
          writeData := r.data, arrivalLevel := s.sc.level, takingTime := s.tb.ticks, early := e, hits := e,
          option := mergedOption s.entries e .none, lossless := wantsLossless s.entries e } →
    ((wantsLossless s.entries e = false ∨ 4 + h.data.length + 3 ≤ 128 - s.cq.occupancy) →
      ∃ t : State, exec (.request (some r)) s = .next t ∧ t.rows = s.rows.set r.tag q ∧
        t.fq = s.fq ++ [r.tag] ∧ t.totals = (countHits e s).totals ∧
        (if wordsIn (bundle s (.hit h)) ≤ 128 - s.cq.occupancy then
           t.cq = { s.cq with records := s.cq.records ++ bundle s (.hit h), pendingLoss := 0#32 } ∧
             t.rbl = { refTime := s.tb.ticks, timeLost := false, losslessSeen := false }
         else
           t.cq = { s.cq with lossCount := satAdd s.cq.lossCount 1, pendingLoss := satAdd s.cq.pendingLoss 1 } ∧
             t.rbl = s.rbl) ∧
        t = { s with rows := t.rows, fq := t.fq, totals := t.totals, cq := t.cq, rbl := t.rbl, au := t.au }) ∧
    (wantsLossless s.entries e = true → 128 - s.cq.occupancy < 4 + h.data.length + 3 →
      exec (.request (some r)) s =
        .next { s with
          rows := s.rows.set r.tag { q with state := .deciding, owed := true },
          rqp := { s.rqp with acceptance := .waitLossless r.tag s.tb.ticks (outcomeOf s.entries e) } })) ∧
  (∀ (r : Request) (e : BitVec 16) (status : RespStatus) (h : HitRecord) (zeros : List Word) (d : Downstream)
    (s : State), s.readyFor →
    s.sc.session = .watching → s.rows[r.tag] = Row.empty → malformed r = false → s.covered r.address = false →
    s.mpa.port = .issuing d → s.rw.ringDone = false → s.rw.writer ≠ .idle →
    e = earlySet s.entries r s.sc.level → linksOf s.entries e = 0#4 → levelOf s.entries e = none →
    stopOf s.entries e = none → verdictOf s.entries e = .block status → owesRecord s.entries e = true →
    (r.kind = .read ∨ wantsLossless s.entries e = false) →
    zeros = (if r.kind = .read ∧ status = .okay then List.replicate r.beats 0#32 else []) →
    h = { address := r.address, hitSet := e, tag := r.tag, kind := r.kind, size := requestSize r, beats := r.beats,
          level := s.sc.level, disposition := .blocked, late := false, memError := false, holdRefused := false,
          losslessTimeout := false, elapsed := 0,
          data := match mergedOption s.entries e .none with
            | .none => []
            | .first => if r.kind = .write then r.data.take 1 else zeros.take 1
            | .all => if r.kind = .write then r.data.take r.beats else zeros } →
    ∃ t : State, exec (.request (some r)) s = .next t ∧
      t.rqp = { s.rqp with ready := s.rqp.ready ++ [{ status := status, tag := r.tag, data := zeros }] } ∧
      t.totals = (countHits e s).totals ∧
      (if wordsIn (bundle s (.hit h)) ≤ 128 - s.cq.occupancy then
         t.cq = { s.cq with records := s.cq.records ++ bundle s (.hit h), pendingLoss := 0#32 } ∧
           t.rbl = { refTime := s.tb.ticks, timeLost := false, losslessSeen := false }
       else
         t.cq = { s.cq with lossCount := satAdd s.cq.lossCount 1, pendingLoss := satAdd s.cq.pendingLoss 1 } ∧
           t.rbl = s.rbl) ∧
      t = { s with rqp := t.rqp, totals := t.totals, cq := t.cq, rbl := t.rbl, au := t.au })

/-! ### Responses from memory, and upstream -/

/-- A response that finds its row neither ISSUED nor ORPHAN, or no ring burst outstanding, is dropped whole (R152). -/
def Obligations.MemoryResponseDropped : Prop :=
  ∀ (m : MemResponse) (s : State),
    (m.marker = .forwarded → s.rows[m.tag].state ∈ [.empty, .deciding, .queued, .parked, .responding] →
      exec (.memoryResponse m) s = .next s) ∧
    (m.marker = .ring → s.rw.outstanding = none → exec (.memoryResponse m) s = .next s)

/-- Responses for rows that owe no record, with no request waiting (R36, R37, R38, R43, R151): an orphan's is consumed,
a write's relayed, a read's delivered with its first words, or as ERROR without data when it is an ERROR or has fewer
words than the row's beats. The row becomes EMPTY (assumption 24), and nothing else changes. And a request in the ORPHAN
wait (R32): when its tag's orphan is consumed, it goes on as a request read then (assumption 4), in a
session here with the Ring Writer busy; the response for another orphan leaves it waiting. -/
def Obligations.PathResponses : Prop :=
  (∀ (tag : Fin 8) (status : RespStatus) (words : List Word) (r : Request) (s t : State), s.atRest → s.pathSound →
    s.rqp.acceptance = .waitOrphan r → s.rows[tag].state = .orphan → s.rows[tag].owed = false →
    t = { s with rows := s.rows.set tag Row.empty } →
    (tag ≠ r.tag →
      exec (.memoryResponse { marker := .forwarded, tag := tag, status := status, data := words }) s = .next t) ∧
    (tag = r.tag → s.lines.reset = false → s.lines.prst = false →
      (s.rw.writer ≠ .idle ∨ s.sc.session ∉ [.watching, .stopping]) →
      exec (.memoryResponse { marker := .forwarded, tag := tag, status := status, data := words }) s =
        exec (.request none)
          { t with rqp := { s.rqp with acceptance := .idle, presented := r :: s.rqp.presented } })) ∧
  ∀ (tag : Fin 8) (status : RespStatus) (words : List Word) (s t : State), s.atRest → s.rqp.acceptance = .idle →
    s.rows[tag].owed = false → t = { s with rows := s.rows.set tag Row.empty } →
    (s.rows[tag].state = .orphan →
      exec (.memoryResponse { marker := .forwarded, tag := tag, status := status, data := words }) s = .next t) ∧
    (s.rows[tag].state = .issued → s.rows[tag].kind = .write →
      exec (.memoryResponse { marker := .forwarded, tag := tag, status := status, data := words }) s =
        .next { t with rqp := { s.rqp with
          ready := s.rqp.ready ++ [{ status := status, tag := tag, data := [] }] } }) ∧
    (s.rows[tag].state = .issued → s.rows[tag].kind = .read → s.rows[tag].late = 0#16 → status = .okay →
      s.rows[tag].beats ≤ words.length →
      exec (.memoryResponse { marker := .forwarded, tag := tag, status := status, data := words }) s =
        .next { t with rqp := { s.rqp with
          ready := s.rqp.ready ++ [{ status := .okay, tag := tag, data := words.take s.rows[tag].beats }] } }) ∧
    (s.rows[tag].state = .issued → s.rows[tag].kind = .read →
      (status = .error ∨ words.length < s.rows[tag].beats) →
      exec (.memoryResponse { marker := .forwarded, tag := tag, status := status, data := words }) s =
        .next { t with rqp := { s.rqp with
          ready := s.rqp.ready ++ [{ status := .error, tag := tag, data := [] }] } })

/-- The late hit set (R14), and what a late match makes of the row, the totals and the causes (R15): nothing else changes
when its hits ask for nothing more. A notice goes to the linked counters not yet notified at the decision, which join the
set (R19); a level request is as at the decision (R57, R60), here with the Ring Writer busy; a stop is a stop request
with the entry's number (R48, O21). MEMORY_RESPONSE makes the late match first (R37): the OKAY response
of an ISSUED read has the effect it has on the state that the late match, on the words returned, leaves, whatever its
hits ask for, and there no candidate is left. Two cases in full, with no request waiting: late hits that ask for nothing
beyond totals and causes, the response delivered and the row EMPTY (assumption 24); and late hits by which the read owes
a record that fits (the Ring Writer busy), which carries all its hits. -/
def Obligations.LateMatchCriteria : Prop :=
  (∀ (tag : Fin 8) (s : State) (l : BitVec 16), l = lateSet s tag →
    (∀ n : Fin 16, l.getLsbD n.val = true ↔
      s.rows[tag].late.getLsbD n.val = true ∧ s.sc.session = .watching ∧ s.entries[n].enabled = true ∧
      ∃ p, s.entries[n].pattern = some p ∧ ∃ beat ∈ s.rows[tag].readBuf,
        p.matches (laneMask s.rows[tag].address s.rows[tag].beats s.rows[tag].size) beat = true) ∧
    (linksOf s.entries l = 0#4 → levelOf s.entries l = none → stopOf s.entries l = none →
      lateMatch tag s = raiseHits (alertsOf s.entries l) (countHits l
        { s with rows := s.rows.set tag { s.rows[tag] with
            late := 0#16, hits := s.rows[tag].hits ||| l,
            option := mergedOption s.entries l s.rows[tag].option,
            owed := s.rows[tag].owed || owesRecord s.entries l,
            lossless := s.rows[tag].lossless || wantsLossless s.entries l } }))) ∧
  (∀ (tag : Fin 8) (s u : State) (l : BitVec 16) (fresh : BitVec 4) (x : Row), l = lateSet s tag →
    (∀ k : Fin 4, fresh.getLsbD k.val = true ↔
      (linksOf s.entries l).getLsbD k.val = true ∧ s.rows[tag].notified.getLsbD k.val = false) →
    x = { s.rows[tag] with
          late := 0#16, hits := s.rows[tag].hits ||| l, option := mergedOption s.entries l s.rows[tag].option,
          owed := s.rows[tag].owed || owesRecord s.entries l,
          lossless := s.rows[tag].lossless || wantsLossless s.entries l,
          notified := s.rows[tag].notified ||| fresh } →
    u = { raiseHits (alertsOf s.entries l) (countHits l s) with rows := s.rows.set tag x } →
    (∀ (new : Vector Counter 4) (expired : BitVec 4), s.sc.session = .watching → levelOf s.entries l = none →
      stopOf s.entries l = none → takeEvent { hits := fresh, ticked := false } s.counters = (new, expired) →
      (∀ n : Fin 4, expired.getLsbD n.val = true →
        s.counters[n].nextLevel = none ∧ s.counters[n].stop = false ∧ s.counters[n].record = false) →
      lateMatch tag s =
        (countersIn expired).foldl (fun a (n : Fin 4) => raise s.counters[n].alert .expiry n.val a)
          { u with counters := new }) ∧
    (∀ (n : Fin 16) (v : Fin 4), fresh = 0#4 → stopOf s.entries l = none → levelOf s.entries l = some (n, v) →
      s.sc.session = .watching →
      ((v = s.sc.level ∨ s.sc.levelRecords = false) → lateMatch tag s = { u with sc := { s.sc with level := v } }) ∧
      (v ≠ s.sc.level → s.sc.levelRecords = true → s.rw.ringDone = false → s.rw.writer ≠ .idle →
        (if wordsIn (bundle s (.level s.sc.level v .entry n.val)) ≤ s.cq.room false then
           (lateMatch tag s).cq =
             { s.cq with
               records := s.cq.records ++ bundle s (.level s.sc.level v .entry n.val), pendingLoss := 0#32 }
         else
           (lateMatch tag s).cq =
             { s.cq with lossCount := satAdd s.cq.lossCount 1, pendingLoss := satAdd s.cq.pendingLoss 1 }) ∧
        lateMatch tag s =
          { u with sc := { s.sc with level := v }, cq := (lateMatch tag s).cq, rbl := (lateMatch tag s).rbl,
                   au := (lateMatch tag s).au })) ∧
    (∀ n : Fin 16, fresh = 0#4 → levelOf s.entries l = none → stopOf s.entries l = some n →
      lateMatch tag s = stopRequest (.entry n) u)) ∧
  (∀ (tag : Fin 8) (words : List Word) (m : MemResponse) (s t : State),
    m = { marker := .forwarded, tag := tag, status := .okay, data := words } → s.pathSound →
    s.rows[tag].state = .issued → s.rows[tag].kind = .read → s.rows[tag].beats ≤ words.length →
    t = { s with rows := s.rows.set tag { s.rows[tag] with readBuf := words.take s.rows[tag].beats } } →
    exec (.memoryResponse m) s = exec (.memoryResponse m) (lateMatch tag t) ∧
    (lateMatch tag t).rows[tag].late = 0#16) ∧
  (∀ (tag : Fin 8) (words : List Word) (l : BitVec 16) (m : MemResponse) (s t : State),
    m = { marker := .forwarded, tag := tag, status := .okay, data := words } → s.atRest → s.rqp.acceptance = .idle →
    s.rows[tag].state = .issued → s.rows[tag].kind = .read → s.rows[tag].beats ≤ words.length →
    t = { s with rows := s.rows.set tag { s.rows[tag] with readBuf := words.take s.rows[tag].beats } } →
    l = lateSet t tag → linksOf s.entries l = 0#4 → levelOf s.entries l = none → stopOf s.entries l = none →
    (s.rows[tag].owed = false → owesRecord s.entries l = false →
      exec (.memoryResponse m) s =
        .next { raiseHits (alertsOf s.entries l) (countHits l s) with
          rows := s.rows.set tag Row.empty,
          rqp := { s.rqp with
            ready := s.rqp.ready ++
              [{ status := .okay, tag := tag, data := words.take s.rows[tag].beats }] } }) ∧
    (∀ h : HitRecord, s.sc.session = .watching → s.rw.ringDone = false → s.rw.writer ≠ .idle →
      (s.rows[tag].owed = true ∨ owesRecord s.entries l = true) →
      h = { address := s.rows[tag].address, hitSet := s.rows[tag].hits ||| l, tag := tag, kind := .read,
            size := s.rows[tag].size, beats := s.rows[tag].beats, level := s.rows[tag].arrivalLevel,
            disposition := s.rows[tag].carry,
            late := ((s.rows[tag].hits ||| l) &&& ~~~s.rows[tag].early) != 0#16, memError := false,
            holdRefused := s.rows[tag].holdRefused, losslessTimeout := false,
            elapsed := min 65535 (s.tb.ticks - s.rows[tag].takingTime).toNat,
            data := match mergedOption s.entries l s.rows[tag].option with
              | .none => []
              | .first => (words.take s.rows[tag].beats).take 1
              | .all => words.take s.rows[tag].beats } →
      wordsIn (bundle s (.hit h)) ≤ s.cq.room false →
      ∃ u : State, exec (.memoryResponse m) s = .next u ∧
        u.cq = { s.cq with records := s.cq.records ++ bundle s (.hit h), pendingLoss := 0#32 } ∧
        u.rows = s.rows.set tag Row.empty ∧ u.totals = (countHits l s).totals ∧
        u.rqp = { s.rqp with
          ready := s.rqp.ready ++ [{ status := .okay, tag := tag, data := words.take s.rows[tag].beats }] } ∧
        u = { s with cq := u.cq, rows := u.rows, totals := u.totals, rqp := u.rqp, rbl := u.rbl, au := u.au }))

/-- The record of a read at its response in WATCHING (R37, R38, R107 to R110, R122, R123, R127), with no late hit and
the Ring Writer busy: placed and the response delivered; or, when it does not fit, the row RESPONDING with the record
as built if it is lossless and FORWARDED, else dropped and counted and the response delivered. A row is EMPTY as soon as
its response is ready (assumption 24). In FAULT and STOPPED, and after RING_DONE, the record is counted as lost and not
offered, and nothing waits (R54, R132). The response that clears the last debt in STOPPING makes the STOP record DUE,
which is offered at once (R51): behind the read's record, both with the Ring Writer busy; or, after RING_DONE, discarded
and counted, with which STOPPING ends (R52). -/
def Obligations.ReadRecordAtResponse : Prop :=
  (∀ (tag : Fin 8) (status : RespStatus) (words : List Word) (h : HitRecord) (x : Row) (s t u v : State), s.atRest →
    s.rqp.acceptance = .idle → s.rows[tag].state = .issued → s.rows[tag].kind = .read → s.rows[tag].owed = true →
    (status = .okay → s.rows[tag].beats ≤ words.length) →
    x = { s.rows[tag] with readBuf := if status = .okay then words.take s.rows[tag].beats else [] } →
    t = { s with
          rows := s.rows.set tag Row.empty,
          rqp := { s.rqp with ready := s.rqp.ready ++ [{ status := status, tag := tag, data := x.readBuf }] } } →
    u = { t with cq := { s.cq with lossCount := satAdd s.cq.lossCount 1 } } →
    (s.sc.session ∈ [.stopped, .fault] →
      exec (.memoryResponse { marker := .forwarded, tag := tag, status := status, data := words }) s = .next u) ∧
    (s.sc.session = .stopping → s.rw.ringDone = true → (∃ k : Fin 8, k ≠ tag ∧ s.rows[k].owed = true) →
      exec (.memoryResponse { marker := .forwarded, tag := tag, status := status, data := words }) s = .next u) ∧
    (s.sc.session = .stopping → (∀ k : Fin 8, k ≠ tag → s.rows[k].owed = false) → s.sc.stopRecord = .notDue →
      (s.rw.ringDone = true → s.rw.writer = .idle → s.rw.outstanding = none → s.cq.records = [] →
        exec (.memoryResponse { marker := .forwarded, tag := tag, status := status, data := words }) s =
          .next (raiseMapped .sessionStopped 0
            { u with
              sc := { s.sc with session := .stopped, stopRecord := .placed },
              cq := { s.cq with lossCount := satAdd (satAdd s.cq.lossCount 1) 1 } })) ∧
      (s.rw.ringDone = false → s.rw.writer ≠ .idle →
        h = { address := x.address, hitSet := x.hits, tag := tag, kind := .read, size := x.size, beats := x.beats,
              level := x.arrivalLevel, disposition := x.carry, late := (x.hits &&& ~~~x.early) != 0#16,
              memError := decide (status = .error), holdRefused := x.holdRefused, losslessTimeout := false,
              elapsed := min 65535 (s.tb.ticks - x.takingTime).toNat,
              data := match x.option with
                | .none => []
                | .first => x.readBuf.take 1
                | .all => x.readBuf.take x.beats } →
        wordsIn (bundle s (.hit h)) ≤ s.cq.room false →
        v = { t with
              cq := { s.cq with records := s.cq.records ++ bundle s (.hit h), pendingLoss := 0#32 },
              rbl := { refTime := s.tb.ticks, timeLost := false, losslessSeen := false } } →
        ∃ w : State,
          exec (.memoryResponse { marker := .forwarded, tag := tag, status := status, data := words }) s = .next w ∧
          (if wordsIn (bundle v (.stop s.tb.ticks s.sc.reason)) ≤ v.cq.room false then
             w.sc = { s.sc with stopRecord := .placed } ∧
               w.cq = { v.cq with records := v.cq.records ++ bundle v (.stop s.tb.ticks s.sc.reason) }
           else w.sc = { s.sc with stopRecord := .due } ∧ w.cq = v.cq) ∧
          w = { v with sc := w.sc, cq := w.cq, rbl := w.rbl, au := w.au }))) ∧
  ∀ (tag : Fin 8) (status : RespStatus) (words : List Word) (h : HitRecord) (x : Row) (s : State), s.atRest →
    s.rqp.acceptance = .idle → s.sc.session = .watching → s.rw.ringDone = false → s.rw.writer ≠ .idle →
    s.rows[tag].state = .issued → s.rows[tag].kind = .read → s.rows[tag].owed = true → s.rows[tag].late = 0#16 →
    (status = .okay → s.rows[tag].beats ≤ words.length) →
    x = { s.rows[tag] with readBuf := if status = .okay then words.take s.rows[tag].beats else [] } →
    h = { address := x.address, hitSet := x.hits, tag := tag, kind := .read, size := x.size, beats := x.beats,
          level := x.arrivalLevel, disposition := x.carry, late := (x.hits &&& ~~~x.early) != 0#16,
          memError := decide (status = .error), holdRefused := x.holdRefused, losslessTimeout := false,
          elapsed := min 65535 (s.tb.ticks - x.takingTime).toNat,
          data := match x.option with
            | .none => []
            | .first => x.readBuf.take 1
            | .all => x.readBuf.take x.beats } →
    (wordsIn (bundle s (.hit h)) ≤ s.cq.room false →
      ∃ t : State,
        exec (.memoryResponse { marker := .forwarded, tag := tag, status := status, data := words }) s = .next t ∧
        t.cq.records = s.cq.records ++ bundle s (.hit h) ∧ t.cq.lossCount = s.cq.lossCount ∧
        t.rows = s.rows.set tag Row.empty ∧
        t.rqp = { s.rqp with ready := s.rqp.ready ++ [{ status := status, tag := tag, data := x.readBuf }] } ∧
        t = { s with rows := t.rows, rqp := t.rqp, cq := t.cq, rbl := t.rbl, au := t.au }) ∧
    (s.cq.room false < wordsIn (bundle s (.hit h)) → x.lossless = true → x.carry = .forwarded →
      exec (.memoryResponse { marker := .forwarded, tag := tag, status := status, data := words }) s =
        .next { s with rows := s.rows.set tag { x with
            state := .responding, wait := some { record := h, status := status, since := s.tb.ticks } } }) ∧
    (s.cq.room false < wordsIn (bundle s (.hit h)) → (x.lossless = false ∨ x.carry ≠ .forwarded) →
      ∃ t : State,
        exec (.memoryResponse { marker := .forwarded, tag := tag, status := status, data := words }) s = .next t ∧
        t.cq = { s.cq with lossCount := satAdd s.cq.lossCount 1, pendingLoss := satAdd s.cq.pendingLoss 1 } ∧
        t.rows = s.rows.set tag Row.empty ∧
        t.rqp = { s.rqp with ready := s.rqp.ready ++ [{ status := status, tag := tag, data := x.readBuf }] } ∧
        t = { s with rows := t.rows, rqp := t.rqp, cq := t.cq, au := t.au })

/-- RESPONSE_DELIVERY (R39; assumption 15): the ready response at place n goes upstream and is ready no more; nothing
else changes, and nothing at all when none is there. -/
def Obligations.ResponseDelivery : Prop :=
  ∀ (n : Nat) (s : State),
    (∀ (before after : List Response) (r : Response), s.rqp.ready = before ++ r :: after → before.length = n →
      exec (.responseDelivery n) s =
        .next { s with rqp := { s.rqp with ready := before ++ after, upstream := some r } }) ∧
    (s.rqp.ready.length ≤ n → exec (.responseDelivery n) s = .next s)

/-! ### Ring Writer and Memory Port -/

/-- Responses to the ring burst outstanding (R142, R143, R144, R146, R147, R53, R52): the next burst of the placement;
its publication in LOOP mode, with the watermark compared, in WATCHING, and as the last event of STOPPING; FAULT on an
ERROR (here with nothing parked and nothing waiting); the end of an abandoned burst. Then, with the port busy:
publication in either mode, of a record or of a WRAP alone, in WATCHING and in STOPPING, whatever stands in the queue
behind it, with the next head record taken, here to be written or to wait for space (R137); FAULT with slots parked and
rows RESPONDING, and FAULT with a write at the LOSSLESS gate, which is decided (R53, R98, R129); and the end of an
abandoned burst in every session state. The model's choices: responses ready by ascending tag (assumption 8), the held
causes in the classes of the match (assumption 12), a released write's disposition to carry (assumption 13), rows EMPTY
once answered (assumption 24), the expiry field (assumption 29), and ORPHAN rows without candidates after FAULT
(assumption 31). -/
def Obligations.RingResponses : Prop :=
  ∀ (b : Burst) (p : Placement) (tag : Fin 8) (words : List Word) (s t : State), s.atRest →
    s.rw.outstanding = some b →
    t = { s with rw := { s.rw with outstanding := none, written := s.rw.written + b.words.length } } →
    (∀ (next : Burst) (rest : List Burst), s.rw.writer = .writing → s.rw.placement = some p →
      p.bursts = next :: rest →
      (∀ d : Downstream, s.mpa.port = .issuing d →
        exec (.memoryResponse { marker := .ring, tag := tag, status := .okay, data := words }) s = .next t) ∧
      (s.mpa.port = .ready →
        exec (.memoryResponse { marker := .ring, tag := tag, status := .okay, data := words }) s =
          .next { t with
            rw := { t.rw with outstanding := some next, placement := some { p with bursts := rest } },
            mpa := { passOver := 0,
                     port := .issuing { marker := .ring, tag := 0, kind := .write, address := next.address,
                                        size := .word, beats := next.words.length, data := next.words } } })) ∧
    (∀ (h : Record) (used : Nat) (u : State), s.rw.writer = .writing → s.rw.placement = some p → p.bursts = [] →
      p.wrapAlone = false → s.rw.mode = .loop → s.rw.described → s.rw.holds s.rw.read → s.rw.holds p.newWrite →
      s.cq.records = [h] →
      used = (if s.rw.read.toNat ≤ p.newWrite.toNat then (p.newWrite.toNat - s.rw.read.toNat) / 4
              else s.rw.size - (s.rw.read.toNat - p.newWrite.toNat) / 4) →
      u = { t with
            cq := { s.cq with records := [] },
            rw := { t.rw with
              write := p.newWrite, written := 0, writer := .idle, placement := none,
              armed := s.rw.armed && decide (used < s.rw.watermark) },
            au := if s.rw.armed = true ∧ s.rw.watermark ≤ used then (raiseMapped .ringHigh 0 s).au else s.au } →
      (s.sc.session = .watching →
        exec (.memoryResponse { marker := .ring, tag := tag, status := .okay, data := words }) s = .next u) ∧
      (s.sc.session = .stopping → s.sc.stopRecord = .placed → s.someOwes = false →
        exec (.memoryResponse { marker := .ring, tag := tag, status := .okay, data := words }) s =
          .next (raiseMapped .sessionStopped 0 { u with sc := { s.sc with session := .stopped } }))) ∧
    (s.rw.writer = .writing → s.sc.session ∈ [.watching, .stopping] → s.rqp.acceptance = .idle →
      (∀ n : Fin 2, s.hold.slots[n] = none) → (∀ n : Fin 8, s.rows[n].state ≠ .responding) →
      exec (.memoryResponse { marker := .ring, tag := tag, status := .error, data := words }) s =
        .next (raise (some 0) .ringFault 0
          { s with
            sc := { s.sc with
              session := .fault, reason := if s.sc.session = .watching then .fault else s.sc.reason,
              stopRecord := if s.sc.stopRecord = .due then .placed else s.sc.stopRecord },
            rows := mapVec (fun r => { r with late := 0#16 }) s.rows,
            counters := mapVec (fun c => { c with tickPending := false }) s.counters,
            cq := { records := [], pendingLoss := 0#32, claim := none,
                    lossCount :=
                      if s.sc.stopRecord = .due then satAdd (satAdd s.cq.lossCount s.cq.records.length) 1
                      else satAdd s.cq.lossCount s.cq.records.length },
            rw := { s.rw with outstanding := none, writer := .idle, written := 0, placement := none } })) ∧
    (s.rw.writer = .abandoning → s.sc.session = .off → ∀ status : RespStatus,
      exec (.memoryResponse { marker := .ring, tag := tag, status := status, data := words }) s =
        .next { s with rw := { s.rw with outstanding := none, writer := .idle } }) ∧
    (∀ (d : Downstream) (used : Nat) (u : State), s.mpa.port = .issuing d → s.rw.writer = .writing →
      s.rw.placement = some p → p.bursts = [] → s.sc.session ∈ [.watching, .stopping] → s.rw.ringDone = false →
      s.rw.described → s.rw.holds s.rw.read → s.rw.holds p.newWrite →
      used = (match s.rw.mode with
        | .once => (p.newWrite.toNat - s.rw.base.toNat) / 4
        | .loop =>
          if s.rw.read.toNat ≤ p.newWrite.toNat then (p.newWrite.toNat - s.rw.read.toNat) / 4
          else s.rw.size - (s.rw.read.toNat - p.newWrite.toNat) / 4) →
      u = { t with
            cq := { s.cq with records := if p.wrapAlone then s.cq.records else s.cq.records.tail },
            rw := { t.rw with
              write := p.newWrite, written := 0, writer := .idle, placement := none,
              armed := s.rw.armed && decide (used < s.rw.watermark) },
            au := if s.rw.armed = true ∧ s.rw.watermark ≤ used then (raiseMapped .ringHigh 0 s).au else s.au } →
      (u.cq.records = [] → (s.sc.session = .watching ∨ s.someOwes = true ∨ s.sc.stopRecord ≠ .placed) →
        exec (.memoryResponse { marker := .ring, tag := tag, status := .okay, data := words }) s = .next u) ∧
      (u.cq.records = [] → s.sc.session = .stopping → s.someOwes = false → s.sc.stopRecord = .placed →
        exec (.memoryResponse { marker := .ring, tag := tag, status := .okay, data := words }) s =
          .next (raiseMapped .sessionStopped 0 { u with sc := { s.sc with session := .stopped } })) ∧
      (∀ (h : Record) (rest : List Record), u.cq.records = h :: rest →
        (∀ next : Placement, u.rw.choose h = .write next →
          exec (.memoryResponse { marker := .ring, tag := tag, status := .okay, data := words }) s =
            .next { u with rw := { u.rw with writer := .writing, placement := some next } }) ∧
        (u.rw.choose h = .waitSpace →
          exec (.memoryResponse { marker := .ring, tag := tag, status := .okay, data := words }) s =
            .next { u with rw := { u.rw with writer := .waitSpace } }))) ∧
    (∀ d : Downstream, s.mpa.port = .issuing d → s.rw.writer = .writing → s.sc.session ∈ [.watching, .stopping] →
      s.pathSound → s.rqp.acceptance = .idle →
      ∃ u : State,
        exec (.memoryResponse { marker := .ring, tag := tag, status := .error, data := words }) s = .next u ∧
        (∀ n : Fin 8,
          (s.rows[n].state = .parked →
            u.rows[n] = { s.rows[n] with
              state := .queued, late := 0#16, carry := .stopForward,
              owed := s.rows[n].owed && decide (s.rows[n].kind = .read) }) ∧
          (s.rows[n].state = .responding → u.rows[n] = Row.empty) ∧
          (s.rows[n].state ∉ [.parked, .responding] → u.rows[n] = { s.rows[n] with late := 0#16 })) ∧
        u = raise (some 0) .ringFault 0
          { s with
            sc := { s.sc with
              session := .fault, reason := if s.sc.session = .watching then .fault else s.sc.reason,
              stopRecord := if s.sc.stopRecord = .due then .placed else s.sc.stopRecord },
            rows := u.rows,
            fq := s.fq ++ s.hold.slots.toList.filterMap (fun p => p.map (·.tag)),
            hold := { s.hold with slots := Vector.replicate 2 none },
            rqp := { s.rqp with
              ready := s.rqp.ready ++ allTags.filterMap fun n => s.rows[n].wait.map fun w =>
                { status := w.status, tag := n,
                  data := if s.rows[n].kind = .read ∧ w.status = .okay then s.rows[n].readBuf else [] } },
            counters := mapVec (fun c => { c with tickPending := false }) s.counters,
            cq := { records := [], pendingLoss := 0#32, claim := none,
                    lossCount := satAdd s.cq.lossCount
                      (s.cq.records.length +
                        (s.hold.slots.toList.filter fun p => p.any fun p =>
                          s.rows[p.tag].owed && decide (s.rows[p.tag].kind = .write)).length +
                        (s.rows.toList.filter fun r => decide (r.state = .responding)).length +
                        (if s.sc.stopRecord = .due then 1 else 0)) },
            rw := { s.rw with outstanding := none, writer := .idle, written := 0, placement := none } }) ∧
    (∀ (d : Downstream) (waiting : Fin 8) (since : Word) (o : MatchOutcome), s.mpa.port = .issuing d →
      s.rw.writer = .writing → s.sc.session ∈ [.watching, .stopping] →
      s.rqp.acceptance = .waitLossless waiting since o → o.verdict = .forward →
      (∀ n : Fin 2, s.hold.slots[n] = none) → (∀ n : Fin 8, s.rows[n].state ≠ .responding) →
      exec (.memoryResponse { marker := .ring, tag := tag, status := .error, data := words }) s =
        .next (raise (some 0) .ringFault 0
          { raiseHits o.alerts (countHits o.early s) with
            sc := { s.sc with
              session := .fault, reason := if s.sc.session = .watching then .fault else s.sc.reason,
              stopRecord := if s.sc.stopRecord = .due then .placed else s.sc.stopRecord },
            rows := (mapVec (fun r => { r with late := 0#16 }) s.rows).set waiting
              { s.rows[waiting] with
                state := .queued, late := 0#16, owed := false, carry := .forwarded, holdRefused := false,
                notified := s.rows[waiting].notified ||| o.notices },
            fq := s.fq ++ [waiting],
            rqp := { s.rqp with acceptance := .idle },
            counters := mapVec (fun c => { c with tickPending := false }) s.counters,
            cq := { records := [], pendingLoss := 0#32, claim := none,
                    lossCount := satAdd s.cq.lossCount
                      (s.cq.records.length + s.rows[waiting].owed.toNat +
                        (if s.sc.stopRecord = .due then 1 else 0)) },
            rw := { s.rw with outstanding := none, writer := .idle, written := 0, placement := none } })) ∧
    (∀ (d : Downstream) (status : RespStatus) (u : State), s.mpa.port = .issuing d → s.rw.writer = .abandoning →
      u = { s with rw := { s.rw with outstanding := none, writer := .idle } } →
      (s.sc.session ∈ [.off, .stopped, .fault] ∨ (s.sc.session = .watching ∧ s.cq.records = []) →
        exec (.memoryResponse { marker := .ring, tag := tag, status := status, data := words }) s = .next u) ∧
      (∀ (h : Record) (rest : List Record), s.sc.session ∈ [.watching, .stopping] → s.rw.ringDone = false →
        s.cq.records = h :: rest →
        (∀ next : Placement, s.rw.choose h = .write next →
          exec (.memoryResponse { marker := .ring, tag := tag, status := status, data := words }) s =
            .next { u with rw := { u.rw with writer := .writing, written := 0, placement := some next } }) ∧
        (s.rw.choose h = .waitSpace →
          exec (.memoryResponse { marker := .ring, tag := tag, status := status, data := words }) s =
            .next { u with rw := { u.rw with writer := .waitSpace } })))

/-- PORT_RETURN_TO_READY and the arbiter's grants (R149, R153, R154, TABLE 9.1): nothing while the port is READY, where
it cannot come (assumption 2); a
grant to the one requester that stands; between the two, the ring when the queue is urgent or has been passed over
sixteen times, else the Forward Queue head, which raises the count. Nothing else changes. -/
def Obligations.PortReturnAndGrant : Prop :=
  ∀ (d : Downstream) (s : State),
    (s.mpa.port = .ready → exec .portReturnToReady s = .next s) ∧
    (s.mpa.port = .issuing d →
      (s.fq = [] → (s.rw.writer ≠ .writing ∨ s.rw.outstanding ≠ none) →
        exec .portReturnToReady s = .next { s with mpa := { s.mpa with port := .ready } }) ∧
      (∀ (tag : Fin 8) (rest : List (Fin 8)) (f : Nat → State), s.fq = tag :: rest →
        (∀ count, f count =
          { s with
            fq := rest, rows := s.rows.set tag { s.rows[tag] with state := .issued },
            mpa := { passOver := count,
                     port := .issuing
                      { marker := .forwarded, tag := tag, kind := s.rows[tag].kind, address := s.rows[tag].address,
                        size := s.rows[tag].size, beats := s.rows[tag].beats,
                        data := if s.rows[tag].kind = .write then s.rows[tag].writeData else [] } } }) →
        ((s.rw.writer ≠ .writing ∨ s.rw.outstanding ≠ none) →
          exec .portReturnToReady s = .next (f s.mpa.passOver)) ∧
        (∀ (p : Placement) (b : Burst) (bs : List Burst), s.rw.writer = .writing → s.rw.outstanding = none →
          s.rw.placement = some p → p.bursts = b :: bs → s.cq.occupancy < 96 → s.mpa.passOver < 16 →
          exec .portReturnToReady s = .next (f (s.mpa.passOver + 1)))) ∧
      (∀ (p : Placement) (b : Burst) (bs : List Burst), s.rw.writer = .writing → s.rw.outstanding = none →
        s.rw.placement = some p → p.bursts = b :: bs →
        (s.fq = [] ∨ 96 ≤ s.cq.occupancy ∨ 16 ≤ s.mpa.passOver) →
        exec .portReturnToReady s =
          .next { s with
            rw := { s.rw with outstanding := some b, placement := some { p with bursts := bs } },
            mpa := { passOver := 0,
                     port := .issuing { marker := .ring, tag := 0, kind := .write, address := b.address,
                                        size := .word, beats := b.words.length, data := b.words } } }))

/-! ### Waits, limits and the tick -/

/-- Room for what waits, in a session with the Ring Writer busy (R124, R125, R126, R127): the write at the LOSSLESS
gate, whose hits ask for nothing beyond totals and causes, passes when the room has reached its claim size, and its
record is placed; a waiting read's record is placed and its response delivered, its row EMPTY while the response is
ready (assumption 24); the STOP record is placed. Where there is not the room, or nothing waits, nothing changes
(assumption 2). -/
def Obligations.LosslessWaits : Prop :=
  ∀ s : State, s.atRest → s.rw.ringDone = false → s.rw.writer ≠ .idle →
    (∀ (tag : Fin 8) (since : Word) (o : MatchOutcome) (x : Row) (h : HitRecord) (d : Downstream),
      s.rqp.acceptance = .waitLossless tag since o → s.sc.session = .watching → x = s.rows[tag] →
      h = { address := x.address, hitSet := x.hits, tag := tag, kind := .write, size := x.size, beats := x.beats,
            level := x.arrivalLevel, disposition := .forwarded, late := (x.hits &&& ~~~x.early) != 0#16,
            memError := false, holdRefused := false, losslessTimeout := false,
            elapsed := min 65535 (s.tb.ticks - x.takingTime).toNat,
            data := match x.option with
              | .none => []
              | .first => x.writeData.take 1
              | .all => x.writeData.take x.beats } → x.kind = .write →
      (s.cq.room false < 4 + h.data.length + 3 → exec .losslessGatePass s = .next s) ∧
      (4 + h.data.length + 3 ≤ s.cq.room false → x.owed = true → s.cq.claim = none → s.mpa.port = .issuing d →
        o.verdict = .forward → o.level = none → o.notices = 0#4 → o.stop = none →
        ∃ t : State, exec .losslessGatePass s = .next t ∧
          t.cq = { s.cq with records := s.cq.records ++ bundle s (.hit h), pendingLoss := 0#32 } ∧
          t.rows = s.rows.set tag { x with owed := false, state := .queued, carry := .forwarded, holdRefused := false } ∧
          t.fq = s.fq ++ [tag] ∧ t.rqp = { s.rqp with acceptance := .idle } ∧
          t.totals = (countHits o.early s).totals ∧
          t = { s with cq := t.cq, rows := t.rows, fq := t.fq, rqp := t.rqp, totals := t.totals, rbl := t.rbl,
                       au := t.au })) ∧
    ((∀ tag since o, s.rqp.acceptance ≠ .waitLossless tag since o) → exec .losslessGatePass s = .next s) ∧
    (∀ (tag : Fin 8) (w : ReadWait), s.rows[tag].state = .responding → s.rows[tag].wait = some w →
      s.rows[tag].kind = .read → s.sc.session = .watching →
      (s.cq.room false < wordsIn (bundle s (.hit w.record)) → exec (.respondingRecordPlaced tag) s = .next s) ∧
      (wordsIn (bundle s (.hit w.record)) ≤ s.cq.room false →
        ∃ t : State, exec (.respondingRecordPlaced tag) s = .next t ∧
          t.cq = { s.cq with records := s.cq.records ++ bundle s (.hit w.record), pendingLoss := 0#32 } ∧
          t.rows = s.rows.set tag Row.empty ∧
          t.rqp = { s.rqp with
            ready := s.rqp.ready ++
              [{ status := w.status, tag := tag, data := if w.status = .okay then s.rows[tag].readBuf else [] }] } ∧
          t = { s with cq := t.cq, rows := t.rows, rqp := t.rqp, rbl := t.rbl, au := t.au })) ∧
    (∀ tag : Fin 8, s.rows[tag].state ≠ .responding → exec (.respondingRecordPlaced tag) s = .next s) ∧
    (s.sc.session = .stopping → s.sc.stopRecord = .due →
      (s.cq.room false < wordsIn (bundle s (.stop s.tb.ticks s.sc.reason)) →
        exec .stopRecordReoffer s = .next s) ∧
      (wordsIn (bundle s (.stop s.tb.ticks s.sc.reason)) ≤ s.cq.room false →
        ∃ t : State, exec .stopRecordReoffer s = .next t ∧ t.sc = { s.sc with stopRecord := .placed } ∧
          t.cq = { s.cq with
            records := s.cq.records ++ bundle s (.stop s.tb.ticks s.sc.reason), pendingLoss := 0#32 } ∧
          t = { s with sc := t.sc, cq := t.cq, rbl := t.rbl, au := t.au })) ∧
    ((s.sc.session ≠ .stopping ∨ s.sc.stopRecord ≠ .due) → exec .stopRecordReoffer s = .next s)

/-- LOSSLESS_STALL_TIMEOUT in WATCHING (R123, R128): the record is dropped and counted, the lossless timeout seen flag
is set, LOSSLESS_TIMEOUT(tag) is raised, and the transaction proceeds without a record: a read's response is ready and
its row EMPTY (assumption 24); a write, here one whose hits ask for nothing, is decided. Nothing else changes, and nothing
at all before the limit or where nothing waits (assumption 2). -/
def Obligations.StallTimeout : Prop :=
  ∀ (tag : Fin 8) (s t : State), s.atRest → s.sc.session = .watching →
    t = { s with
          cq := { s.cq with lossCount := satAdd s.cq.lossCount 1, pendingLoss := satAdd s.cq.pendingLoss 1 },
          rbl := { s.rbl with losslessSeen := true },
          au := (raiseMapped .losslessTimeout tag.val
            (if s.cq.pendingLoss = 0#32 then raiseMapped .lossBegin 0 s else s)).au } →
    (∀ w : ReadWait, s.rows[tag].state = .responding → s.rows[tag].wait = some w → s.rows[tag].kind = .read →
      (s.sc.stallLimit.toNat ≤ (s.tb.ticks - w.since).toNat →
        exec (.losslessStallTimeout tag) s =
          .next { t with
            rows := s.rows.set tag Row.empty,
            rqp := { s.rqp with
              ready := s.rqp.ready ++
                [{ status := w.status, tag := tag,
                   data := if w.status = .okay then s.rows[tag].readBuf else [] }] } }) ∧
      ((s.tb.ticks - w.since).toNat < s.sc.stallLimit.toNat → exec (.losslessStallTimeout tag) s = .next s)) ∧
    (∀ (since : Word) (o : MatchOutcome) (d : Downstream), s.rqp.acceptance = .waitLossless tag since o →
      s.rows[tag].state = .deciding →
      (s.sc.stallLimit.toNat ≤ (s.tb.ticks - since).toNat → s.rows[tag].kind = .write → s.cq.claim = none →
        s.mpa.port = .issuing d → o.verdict = .forward → o.alerts = [] → o.level = none → o.notices = 0#4 →
        o.stop = none →
        exec (.losslessStallTimeout tag) s =
          .next { t with
            totals := (countHits o.early s).totals,
            rows := s.rows.set tag { s.rows[tag] with
              owed := false, state := .queued, carry := .forwarded, holdRefused := false },
            fq := s.fq ++ [tag], rqp := { s.rqp with acceptance := .idle } }) ∧
      ((s.tb.ticks - since).toNat < s.sc.stallLimit.toNat → exec (.losslessStallTimeout tag) s = .next s)) ∧
    (s.rows[tag].state ≠ .responding → (∀ since o, s.rqp.acceptance ≠ .waitLossless tag since o) →
      exec (.losslessStallTimeout tag) s = .next s)

/-- HOLD_TIMEOUT (R92, R93): a slot whose age has reached a hold limit of 1 or more is released with the timeout
disposition, here with the port busy, no request waiting and no record owed, and HOLD_TIMEOUT(slot) is raised in the
hold class. Nothing else changes, and nothing at all when the slot does not time out (assumption 2). A row is EMPTY
while its response is ready (assumption 24), and a released write too carries TIMEOUT_FORWARD (assumption 13). -/
def Obligations.HoldTimeout : Prop :=
  ∀ (n : Fin 2) (s : State),
    ((s.hold.slots[n] = none ∨ s.hold.limit = 0#24 ∨
        ∃ p, s.hold.slots[n] = some p ∧ (s.tb.ticks - p.parkTime).toNat < s.hold.limit.toNat) →
      exec (.holdTimeout n) s = .next s) ∧
    (∀ (p : Parked) (d : Downstream) (t : State), s.atRest → s.rqp.acceptance = .idle → s.mpa.port = .issuing d →
      s.hold.slots[n] = some p → s.hold.limit ≠ 0#24 →
      s.hold.limit.toNat ≤ (s.tb.ticks - p.parkTime).toNat → s.rows[p.tag].owed = false →
      s.rows[p.tag].state = .parked →
      t = { s with hold := { s.hold with slots := s.hold.slots.set n none },
                   au := (raise s.hold.holdClass .holdTimeout n.val s).au } →
      (s.hold.timeoutFail = false →
        exec (.holdTimeout n) s =
          .next { t with
            rows := s.rows.set p.tag { s.rows[p.tag] with state := .queued, carry := .timeoutForward },
            fq := s.fq ++ [p.tag] }) ∧
      (s.hold.timeoutFail = true →
        exec (.holdTimeout n) s =
          .next { t with
            rows := s.rows.set p.tag Row.empty,
            rqp := { s.rqp with ready := s.rqp.ready ++ [{ status := .error, tag := p.tag, data := [] }] } }))

/-- TICK (R63, R64, R74): the count rises by one, wrapping, and the prescaler begins a new period. With no event of the
block's own due, each COUNTING TIME counter counts while the session is WATCHING, one at 1 waiting for COUNTER_EXPIRY
(assumption 3), and nothing else changes. -/
def Obligations.TickCountsUp : Prop :=
  ∀ s : State, s.lines.reset = false →
    (∀ t : State, exec .tick s = .next t → t.tb = { s.tb with ticks := s.tb.ticks + 1#32, phase := 0 }) ∧
    (s.nothingDue →
      ∃ t : State, exec .tick s = .next t ∧
        t = { s with tb := { s.tb with ticks := s.tb.ticks + 1#32, phase := 0 }, counters := t.counters } ∧
        ∀ n : Fin 4,
          (s.sc.session = .watching → s.counters[n].mode = .time → s.counters[n].state = .counting →
            (2 ≤ s.counters[n].value → t.counters[n] = { s.counters[n] with value := s.counters[n].value - 1 }) ∧
            (s.counters[n].value ≤ 1 → t.counters[n] = { s.counters[n] with tickPending := true })) ∧
          ((s.sc.session ≠ .watching ∨ s.counters[n].mode ≠ .time ∨ s.counters[n].state ≠ .counting) →
            t.counters[n] = s.counters[n]))

/-- One event at the counters (R73 to R76): which counters count and which expire, each counter's reload, and the start
of a waiting TIME counter. A TIME counter counts here the expiry that a tick left standing, which COUNTER_EXPIRY takes
(assumption 3). And COUNTER_EXPIRY (R77): the group of a tick, here of counters that ask for nothing beyond their
causes; nothing when no expiry stands (assumption 2). -/
def Obligations.CounterExpiry : Prop :=
  (∀ (ev : CounterEvent) (cs new : Vector Counter 4) (expired : BitVec 4), (∀ n : Fin 4, cs[n].sourceBelow n = true) →
    takeEvent ev cs = (new, expired) →
    ∀ (n : Fin 4) (counted : Prop),
      (counted ↔ cs[n].state = .counting ∧
        ((cs[n].mode = .event ∧ cs[n].source = .entries ∧ ev.hits.getLsbD n.val = true) ∨
          (cs[n].mode = .event ∧ ∃ k : Fin 4, cs[n].source = .cascade k ∧ expired.getLsbD k.val = true) ∨
          (cs[n].mode = .time ∧ ev.ticked = true ∧ cs[n].tickPending = true))) →
      (expired.getLsbD n.val = true ↔ counted ∧ cs[n].value ≤ 1) ∧
      (counted → cs[n].value ≤ 1 →
        new[n] =
          { cs[n] with
            constant := cs[n].pending.getD cs[n].constant, value := cs[n].pending.getD cs[n].constant, pending := none,
            tickPending := false, state := if cs[n].reload = .oneshot then .idle else .counting }) ∧
      (counted → 2 ≤ cs[n].value → new[n] = { cs[n] with value := cs[n].value - 1 }) ∧
      (cs[n].mode = .time → cs[n].start = .onHit → cs[n].state = .waitStart → ev.hits.getLsbD n.val = true →
        new[n] = { cs[n] with state := .counting }) ∧
      (¬counted →
        ¬(cs[n].mode = .time ∧ cs[n].start = .onHit ∧ cs[n].state = .waitStart ∧ ev.hits.getLsbD n.val = true) →
        new[n] = cs[n])) ∧
  (∀ (s : State) (new : Vector Counter 4) (expired : BitVec 4), s.sc.session = .watching → s.atRest →
    (∃ n : Fin 4, s.counters[n].tickPending = true) →
    takeEvent { hits := 0#4, ticked := true } s.counters = (new, expired) →
    (∀ n : Fin 4, expired.getLsbD n.val = true →
      s.counters[n].nextLevel = none ∧ s.counters[n].stop = false ∧ s.counters[n].record = false) →
    exec .counterExpiry s =
      .next ((countersIn expired).foldl (fun a (n : Fin 4) => raise s.counters[n].alert .expiry n.val a)
        { s with counters := new })) ∧
  (∀ s : State, (s.sc.session ≠ .watching ∨ ∀ n : Fin 4, s.counters[n].tickPending = false) →
    exec .counterExpiry s = .next s)

/-- AUTONOMOUS_GAP (R104, R117, R130) while WATCHING, or STOPPING with the STOP record not PLACED, the Ring Writer busy:
a GAP of 2048 is placed alone and the reference time moves to the present one; without room for a word only time-lost
is set; while it is not due nothing changes (assumption 2). -/
def Obligations.AutonomousGap : Prop :=
  ∀ s : State,
    ((s.sc.session ∉ [.watching, .stopping] ∨ (s.sc.session = .stopping ∧ s.sc.stopRecord = .placed) ∨
        s.rbl.timeLost = true ∨ s.tb.ticks - s.rbl.refTime ≠ 0x80000000#32) →
      exec .autonomousGap s = .next s) ∧
    ((s.sc.session = .watching ∨ (s.sc.session = .stopping ∧ s.sc.stopRecord ≠ .placed)) → s.rbl.timeLost = false →
      s.tb.ticks - s.rbl.refTime = 0x80000000#32 → s.rw.ringDone = false → s.rw.writer ≠ .idle → s.atRest →
      (1 ≤ s.cq.room false →
        exec .autonomousGap s =
          .next { s with
            cq := { s.cq with
              records := s.cq.records ++ [{ body := .gap, timeLost := false, time := 2048#20 }] },
            rbl := { s.rbl with refTime := s.tb.ticks },
            au := if s.cq.occupancy = 95 then (raiseMapped .queueUrgent 0 s).au else s.au }) ∧
      (s.cq.room false = 0 → exec .autonomousGap s = .next { s with rbl := { s.rbl with timeLost := true } }))

/-! ### Invariants -/

/-- The invariants of Safety.lean hold right after reset. -/
def Obligations.InvariantsHoldAtReset : Prop := State.reset.sound

/-- In states where the invariants hold, every step keeps the Capture Queue within 128 words (R120), empty outside
WATCHING and STOPPING and after RING_DONE (R131, R132, R133), with no claim left standing (R126). -/
def Obligations.QueueInvariant : Prop :=
  ∀ s t : State, s.sound → step s = .next t → t.queueFits ∧ t.queueQuiet

/-- In states where the invariants hold, every step keeps the counters in range (R66), the alert lists sound (R156), the
pass-over count at most 16 (R154), the phase below the divisor (R63), and the frame state in step with CS (R165). -/
def Obligations.UnitsInvariant : Prop :=
  ∀ s t : State, s.sound → step s = .next t → t.unitsSound

/-- In states where the invariants hold, every step keeps the path sound: a tag is in the Forward Queue, once, exactly
when its row is QUEUED (R35), and in a slot exactly when its row is PARKED, with two tickets for two slots and nothing
parked outside WATCHING (R82, R50); the acceptance state fits the rows (R31); and every record has at most twelve words
(R104). -/
def Obligations.PathInvariant : Prop :=
  ∀ s t : State, s.sound → step s = .next t → t.pathSound ∧ t.recordsSound

/-- In states where the invariants hold, every step keeps both pointers, the placement and the burst outstanding in
the ring (R134, R141). -/
def Obligations.RingInvariant : Prop :=
  ∀ s t : State, s.sound → step s = .next t → t.ringSound

/-! ### Frames -/

/-- The bytes of a frame spell its command: for every command that comes over the Management Port, with every operand,
decoding the bytes written for it gives it back, and no shorter run of them spells a command (R166, R168, TABLE 11.1,
TABLE 11.4). The frame codec is the model's own, which exec does not read: the opcode table gives no bits (assumption
21). -/
def Obligations.FrameRoundTrip : Prop :=
  ∀ (c : Instr) (bytes : List Byte), Frame.encode c = some bytes →
    Frame.decode bytes = some c ∧ ∀ n < bytes.length, Frame.decode (bytes.take n) = none
end

