-- ==== Sys2Proof/Laws/State.lean ====
section
/-! SUPPORT. What each plain update of the state leaves alone: one lemma a field, true by unfolding, for simp. -/

namespace Sys2Proof.Machine

variable (s : State)

/-! ### modifyRow -/

@[simp] theorem modifyRow_rqp (tag : Fin 8) (f : Row → Row) : (modifyRow tag f s).rqp = s.rqp := rfl
@[simp] theorem modifyRow_fq (tag : Fin 8) (f : Row → Row) : (modifyRow tag f s).fq = s.fq := rfl
@[simp] theorem modifyRow_entries (tag : Fin 8) (f : Row → Row) : (modifyRow tag f s).entries = s.entries := rfl
@[simp] theorem modifyRow_totals (tag : Fin 8) (f : Row → Row) : (modifyRow tag f s).totals = s.totals := rfl
@[simp] theorem modifyRow_hold (tag : Fin 8) (f : Row → Row) : (modifyRow tag f s).hold = s.hold := rfl
@[simp] theorem modifyRow_sc (tag : Fin 8) (f : Row → Row) : (modifyRow tag f s).sc = s.sc := rfl
@[simp] theorem modifyRow_tb (tag : Fin 8) (f : Row → Row) : (modifyRow tag f s).tb = s.tb := rfl
@[simp] theorem modifyRow_counters (tag : Fin 8) (f : Row → Row) : (modifyRow tag f s).counters = s.counters := rfl
@[simp] theorem modifyRow_rbl (tag : Fin 8) (f : Row → Row) : (modifyRow tag f s).rbl = s.rbl := rfl
@[simp] theorem modifyRow_cq (tag : Fin 8) (f : Row → Row) : (modifyRow tag f s).cq = s.cq := rfl
@[simp] theorem modifyRow_rw (tag : Fin 8) (f : Row → Row) : (modifyRow tag f s).rw = s.rw := rfl
@[simp] theorem modifyRow_mpa (tag : Fin 8) (f : Row → Row) : (modifyRow tag f s).mpa = s.mpa := rfl
@[simp] theorem modifyRow_au (tag : Fin 8) (f : Row → Row) : (modifyRow tag f s).au = s.au := rfl
@[simp] theorem modifyRow_mgp (tag : Fin 8) (f : Row → Row) : (modifyRow tag f s).mgp = s.mgp := rfl
@[simp] theorem modifyRow_lines (tag : Fin 8) (f : Row → Row) : (modifyRow tag f s).lines = s.lines := rfl
@[simp] theorem modifyRow_choices (tag : Fin 8) (f : Row → Row) : (modifyRow tag f s).choices = s.choices := rfl
@[simp] theorem modifyRow_pending (tag : Fin 8) (f : Row → Row) : (modifyRow tag f s).pending = s.pending := rfl

/-! ### mapRows -/

@[simp] theorem mapRows_rqp (f : Row → Row) : (mapRows f s).rqp = s.rqp := rfl
@[simp] theorem mapRows_fq (f : Row → Row) : (mapRows f s).fq = s.fq := rfl
@[simp] theorem mapRows_entries (f : Row → Row) : (mapRows f s).entries = s.entries := rfl
@[simp] theorem mapRows_totals (f : Row → Row) : (mapRows f s).totals = s.totals := rfl
@[simp] theorem mapRows_hold (f : Row → Row) : (mapRows f s).hold = s.hold := rfl
@[simp] theorem mapRows_sc (f : Row → Row) : (mapRows f s).sc = s.sc := rfl
@[simp] theorem mapRows_tb (f : Row → Row) : (mapRows f s).tb = s.tb := rfl
@[simp] theorem mapRows_counters (f : Row → Row) : (mapRows f s).counters = s.counters := rfl
@[simp] theorem mapRows_rbl (f : Row → Row) : (mapRows f s).rbl = s.rbl := rfl
@[simp] theorem mapRows_cq (f : Row → Row) : (mapRows f s).cq = s.cq := rfl
@[simp] theorem mapRows_rw (f : Row → Row) : (mapRows f s).rw = s.rw := rfl
@[simp] theorem mapRows_mpa (f : Row → Row) : (mapRows f s).mpa = s.mpa := rfl
@[simp] theorem mapRows_au (f : Row → Row) : (mapRows f s).au = s.au := rfl
@[simp] theorem mapRows_mgp (f : Row → Row) : (mapRows f s).mgp = s.mgp := rfl
@[simp] theorem mapRows_lines (f : Row → Row) : (mapRows f s).lines = s.lines := rfl
@[simp] theorem mapRows_choices (f : Row → Row) : (mapRows f s).choices = s.choices := rfl
@[simp] theorem mapRows_pending (f : Row → Row) : (mapRows f s).pending = s.pending := rfl

/-! ### queueForward -/

@[simp] theorem queueForward_rqp (tag : Fin 8) : (queueForward tag s).rqp = s.rqp := rfl
@[simp] theorem queueForward_entries (tag : Fin 8) : (queueForward tag s).entries = s.entries := rfl
@[simp] theorem queueForward_totals (tag : Fin 8) : (queueForward tag s).totals = s.totals := rfl
@[simp] theorem queueForward_hold (tag : Fin 8) : (queueForward tag s).hold = s.hold := rfl
@[simp] theorem queueForward_sc (tag : Fin 8) : (queueForward tag s).sc = s.sc := rfl
@[simp] theorem queueForward_tb (tag : Fin 8) : (queueForward tag s).tb = s.tb := rfl
@[simp] theorem queueForward_counters (tag : Fin 8) : (queueForward tag s).counters = s.counters := rfl
@[simp] theorem queueForward_rbl (tag : Fin 8) : (queueForward tag s).rbl = s.rbl := rfl
@[simp] theorem queueForward_cq (tag : Fin 8) : (queueForward tag s).cq = s.cq := rfl
@[simp] theorem queueForward_rw (tag : Fin 8) : (queueForward tag s).rw = s.rw := rfl
@[simp] theorem queueForward_mpa (tag : Fin 8) : (queueForward tag s).mpa = s.mpa := rfl
@[simp] theorem queueForward_au (tag : Fin 8) : (queueForward tag s).au = s.au := rfl
@[simp] theorem queueForward_mgp (tag : Fin 8) : (queueForward tag s).mgp = s.mgp := rfl
@[simp] theorem queueForward_lines (tag : Fin 8) : (queueForward tag s).lines = s.lines := rfl
@[simp] theorem queueForward_choices (tag : Fin 8) : (queueForward tag s).choices = s.choices := rfl
@[simp] theorem queueForward_pending (tag : Fin 8) : (queueForward tag s).pending = s.pending := rfl

/-! ### respond -/

@[simp] theorem respond_rows (r : Response) : (respond r s).rows = s.rows := rfl
@[simp] theorem respond_fq (r : Response) : (respond r s).fq = s.fq := rfl
@[simp] theorem respond_entries (r : Response) : (respond r s).entries = s.entries := rfl
@[simp] theorem respond_totals (r : Response) : (respond r s).totals = s.totals := rfl
@[simp] theorem respond_hold (r : Response) : (respond r s).hold = s.hold := rfl
@[simp] theorem respond_sc (r : Response) : (respond r s).sc = s.sc := rfl
@[simp] theorem respond_tb (r : Response) : (respond r s).tb = s.tb := rfl
@[simp] theorem respond_counters (r : Response) : (respond r s).counters = s.counters := rfl
@[simp] theorem respond_rbl (r : Response) : (respond r s).rbl = s.rbl := rfl
@[simp] theorem respond_cq (r : Response) : (respond r s).cq = s.cq := rfl
@[simp] theorem respond_rw (r : Response) : (respond r s).rw = s.rw := rfl
@[simp] theorem respond_mpa (r : Response) : (respond r s).mpa = s.mpa := rfl
@[simp] theorem respond_au (r : Response) : (respond r s).au = s.au := rfl
@[simp] theorem respond_mgp (r : Response) : (respond r s).mgp = s.mgp := rfl
@[simp] theorem respond_lines (r : Response) : (respond r s).lines = s.lines := rfl
@[simp] theorem respond_choices (r : Response) : (respond r s).choices = s.choices := rfl
@[simp] theorem respond_pending (r : Response) : (respond r s).pending = s.pending := rfl

/-! ### deliverRow -/

@[simp] theorem deliverRow_fq (tag : Fin 8) (status : RespStatus) : (deliverRow tag status s).fq = s.fq := rfl
@[simp] theorem deliverRow_entries (tag : Fin 8) (status : RespStatus) : (deliverRow tag status s).entries = s.entries := rfl
@[simp] theorem deliverRow_totals (tag : Fin 8) (status : RespStatus) : (deliverRow tag status s).totals = s.totals := rfl
@[simp] theorem deliverRow_hold (tag : Fin 8) (status : RespStatus) : (deliverRow tag status s).hold = s.hold := rfl
@[simp] theorem deliverRow_sc (tag : Fin 8) (status : RespStatus) : (deliverRow tag status s).sc = s.sc := rfl
@[simp] theorem deliverRow_tb (tag : Fin 8) (status : RespStatus) : (deliverRow tag status s).tb = s.tb := rfl
@[simp] theorem deliverRow_counters (tag : Fin 8) (status : RespStatus) : (deliverRow tag status s).counters = s.counters := rfl
@[simp] theorem deliverRow_rbl (tag : Fin 8) (status : RespStatus) : (deliverRow tag status s).rbl = s.rbl := rfl
@[simp] theorem deliverRow_cq (tag : Fin 8) (status : RespStatus) : (deliverRow tag status s).cq = s.cq := rfl
@[simp] theorem deliverRow_rw (tag : Fin 8) (status : RespStatus) : (deliverRow tag status s).rw = s.rw := rfl
@[simp] theorem deliverRow_mpa (tag : Fin 8) (status : RespStatus) : (deliverRow tag status s).mpa = s.mpa := rfl
@[simp] theorem deliverRow_au (tag : Fin 8) (status : RespStatus) : (deliverRow tag status s).au = s.au := rfl
@[simp] theorem deliverRow_mgp (tag : Fin 8) (status : RespStatus) : (deliverRow tag status s).mgp = s.mgp := rfl
@[simp] theorem deliverRow_lines (tag : Fin 8) (status : RespStatus) : (deliverRow tag status s).lines = s.lines := rfl
@[simp] theorem deliverRow_choices (tag : Fin 8) (status : RespStatus) : (deliverRow tag status s).choices = s.choices := rfl
@[simp] theorem deliverRow_pending (tag : Fin 8) (status : RespStatus) : (deliverRow tag status s).pending = s.pending := rfl

/-! ### clearDebt -/

@[simp] theorem clearDebt_rqp (tag : Fin 8) : (clearDebt tag s).rqp = s.rqp := rfl
@[simp] theorem clearDebt_fq (tag : Fin 8) : (clearDebt tag s).fq = s.fq := rfl
@[simp] theorem clearDebt_entries (tag : Fin 8) : (clearDebt tag s).entries = s.entries := rfl
@[simp] theorem clearDebt_totals (tag : Fin 8) : (clearDebt tag s).totals = s.totals := rfl
@[simp] theorem clearDebt_hold (tag : Fin 8) : (clearDebt tag s).hold = s.hold := rfl
@[simp] theorem clearDebt_sc (tag : Fin 8) : (clearDebt tag s).sc = s.sc := rfl
@[simp] theorem clearDebt_tb (tag : Fin 8) : (clearDebt tag s).tb = s.tb := rfl
@[simp] theorem clearDebt_counters (tag : Fin 8) : (clearDebt tag s).counters = s.counters := rfl
@[simp] theorem clearDebt_rbl (tag : Fin 8) : (clearDebt tag s).rbl = s.rbl := rfl
@[simp] theorem clearDebt_cq (tag : Fin 8) : (clearDebt tag s).cq = s.cq := rfl
@[simp] theorem clearDebt_rw (tag : Fin 8) : (clearDebt tag s).rw = s.rw := rfl
@[simp] theorem clearDebt_mpa (tag : Fin 8) : (clearDebt tag s).mpa = s.mpa := rfl
@[simp] theorem clearDebt_au (tag : Fin 8) : (clearDebt tag s).au = s.au := rfl
@[simp] theorem clearDebt_mgp (tag : Fin 8) : (clearDebt tag s).mgp = s.mgp := rfl
@[simp] theorem clearDebt_lines (tag : Fin 8) : (clearDebt tag s).lines = s.lines := rfl
@[simp] theorem clearDebt_choices (tag : Fin 8) : (clearDebt tag s).choices = s.choices := rfl
@[simp] theorem clearDebt_pending (tag : Fin 8) : (clearDebt tag s).pending = s.pending := rfl

/-! ### countLost -/

@[simp] theorem countLost_rqp (n : Nat) : (countLost n s).rqp = s.rqp := rfl
@[simp] theorem countLost_rows (n : Nat) : (countLost n s).rows = s.rows := rfl
@[simp] theorem countLost_fq (n : Nat) : (countLost n s).fq = s.fq := rfl
@[simp] theorem countLost_entries (n : Nat) : (countLost n s).entries = s.entries := rfl
@[simp] theorem countLost_totals (n : Nat) : (countLost n s).totals = s.totals := rfl
@[simp] theorem countLost_hold (n : Nat) : (countLost n s).hold = s.hold := rfl
@[simp] theorem countLost_sc (n : Nat) : (countLost n s).sc = s.sc := rfl
@[simp] theorem countLost_tb (n : Nat) : (countLost n s).tb = s.tb := rfl
@[simp] theorem countLost_counters (n : Nat) : (countLost n s).counters = s.counters := rfl
@[simp] theorem countLost_rbl (n : Nat) : (countLost n s).rbl = s.rbl := rfl
@[simp] theorem countLost_rw (n : Nat) : (countLost n s).rw = s.rw := rfl
@[simp] theorem countLost_mpa (n : Nat) : (countLost n s).mpa = s.mpa := rfl
@[simp] theorem countLost_au (n : Nat) : (countLost n s).au = s.au := rfl
@[simp] theorem countLost_mgp (n : Nat) : (countLost n s).mgp = s.mgp := rfl
@[simp] theorem countLost_lines (n : Nat) : (countLost n s).lines = s.lines := rfl
@[simp] theorem countLost_choices (n : Nat) : (countLost n s).choices = s.choices := rfl
@[simp] theorem countLost_pending (n : Nat) : (countLost n s).pending = s.pending := rfl

/-! ### discardCounted -/

@[simp] theorem discardCounted_rqp : (discardCounted s).rqp = s.rqp := rfl
@[simp] theorem discardCounted_rows : (discardCounted s).rows = s.rows := rfl
@[simp] theorem discardCounted_fq : (discardCounted s).fq = s.fq := rfl
@[simp] theorem discardCounted_entries : (discardCounted s).entries = s.entries := rfl
@[simp] theorem discardCounted_totals : (discardCounted s).totals = s.totals := rfl
@[simp] theorem discardCounted_hold : (discardCounted s).hold = s.hold := rfl
@[simp] theorem discardCounted_sc : (discardCounted s).sc = s.sc := rfl
@[simp] theorem discardCounted_tb : (discardCounted s).tb = s.tb := rfl
@[simp] theorem discardCounted_counters : (discardCounted s).counters = s.counters := rfl
@[simp] theorem discardCounted_rbl : (discardCounted s).rbl = s.rbl := rfl
@[simp] theorem discardCounted_rw : (discardCounted s).rw = s.rw := rfl
@[simp] theorem discardCounted_mpa : (discardCounted s).mpa = s.mpa := rfl
@[simp] theorem discardCounted_au : (discardCounted s).au = s.au := rfl
@[simp] theorem discardCounted_mgp : (discardCounted s).mgp = s.mgp := rfl
@[simp] theorem discardCounted_lines : (discardCounted s).lines = s.lines := rfl
@[simp] theorem discardCounted_choices : (discardCounted s).choices = s.choices := rfl
@[simp] theorem discardCounted_pending : (discardCounted s).pending = s.pending := rfl

/-! ### startPlacement -/

@[simp] theorem startPlacement_rqp (p : Placement) : (startPlacement p s).rqp = s.rqp := rfl
@[simp] theorem startPlacement_rows (p : Placement) : (startPlacement p s).rows = s.rows := rfl
@[simp] theorem startPlacement_fq (p : Placement) : (startPlacement p s).fq = s.fq := rfl
@[simp] theorem startPlacement_entries (p : Placement) : (startPlacement p s).entries = s.entries := rfl
@[simp] theorem startPlacement_totals (p : Placement) : (startPlacement p s).totals = s.totals := rfl
@[simp] theorem startPlacement_hold (p : Placement) : (startPlacement p s).hold = s.hold := rfl
@[simp] theorem startPlacement_sc (p : Placement) : (startPlacement p s).sc = s.sc := rfl
@[simp] theorem startPlacement_tb (p : Placement) : (startPlacement p s).tb = s.tb := rfl
@[simp] theorem startPlacement_counters (p : Placement) : (startPlacement p s).counters = s.counters := rfl
@[simp] theorem startPlacement_rbl (p : Placement) : (startPlacement p s).rbl = s.rbl := rfl
@[simp] theorem startPlacement_cq (p : Placement) : (startPlacement p s).cq = s.cq := rfl
@[simp] theorem startPlacement_mpa (p : Placement) : (startPlacement p s).mpa = s.mpa := rfl
@[simp] theorem startPlacement_au (p : Placement) : (startPlacement p s).au = s.au := rfl
@[simp] theorem startPlacement_mgp (p : Placement) : (startPlacement p s).mgp = s.mgp := rfl
@[simp] theorem startPlacement_lines (p : Placement) : (startPlacement p s).lines = s.lines := rfl
@[simp] theorem startPlacement_choices (p : Placement) : (startPlacement p s).choices = s.choices := rfl
@[simp] theorem startPlacement_pending (p : Placement) : (startPlacement p s).pending = s.pending := rfl

/-! ### freeSlot -/

@[simp] theorem freeSlot_rqp (n : Fin 2) : (freeSlot n s).rqp = s.rqp := rfl
@[simp] theorem freeSlot_rows (n : Fin 2) : (freeSlot n s).rows = s.rows := rfl
@[simp] theorem freeSlot_fq (n : Fin 2) : (freeSlot n s).fq = s.fq := rfl
@[simp] theorem freeSlot_entries (n : Fin 2) : (freeSlot n s).entries = s.entries := rfl
@[simp] theorem freeSlot_totals (n : Fin 2) : (freeSlot n s).totals = s.totals := rfl
@[simp] theorem freeSlot_sc (n : Fin 2) : (freeSlot n s).sc = s.sc := rfl
@[simp] theorem freeSlot_tb (n : Fin 2) : (freeSlot n s).tb = s.tb := rfl
@[simp] theorem freeSlot_counters (n : Fin 2) : (freeSlot n s).counters = s.counters := rfl
@[simp] theorem freeSlot_rbl (n : Fin 2) : (freeSlot n s).rbl = s.rbl := rfl
@[simp] theorem freeSlot_cq (n : Fin 2) : (freeSlot n s).cq = s.cq := rfl
@[simp] theorem freeSlot_rw (n : Fin 2) : (freeSlot n s).rw = s.rw := rfl
@[simp] theorem freeSlot_mpa (n : Fin 2) : (freeSlot n s).mpa = s.mpa := rfl
@[simp] theorem freeSlot_au (n : Fin 2) : (freeSlot n s).au = s.au := rfl
@[simp] theorem freeSlot_mgp (n : Fin 2) : (freeSlot n s).mgp = s.mgp := rfl
@[simp] theorem freeSlot_lines (n : Fin 2) : (freeSlot n s).lines = s.lines := rfl
@[simp] theorem freeSlot_choices (n : Fin 2) : (freeSlot n s).choices = s.choices := rfl
@[simp] theorem freeSlot_pending (n : Fin 2) : (freeSlot n s).pending = s.pending := rfl

/-! ### freeze -/

@[simp] theorem freeze_rqp : (freeze s).rqp = s.rqp := rfl
@[simp] theorem freeze_fq : (freeze s).fq = s.fq := rfl
@[simp] theorem freeze_entries : (freeze s).entries = s.entries := rfl
@[simp] theorem freeze_totals : (freeze s).totals = s.totals := rfl
@[simp] theorem freeze_hold : (freeze s).hold = s.hold := rfl
@[simp] theorem freeze_sc : (freeze s).sc = s.sc := rfl
@[simp] theorem freeze_tb : (freeze s).tb = s.tb := rfl
@[simp] theorem freeze_rbl : (freeze s).rbl = s.rbl := rfl
@[simp] theorem freeze_cq : (freeze s).cq = s.cq := rfl
@[simp] theorem freeze_rw : (freeze s).rw = s.rw := rfl
@[simp] theorem freeze_mpa : (freeze s).mpa = s.mpa := rfl
@[simp] theorem freeze_au : (freeze s).au = s.au := rfl
@[simp] theorem freeze_mgp : (freeze s).mgp = s.mgp := rfl
@[simp] theorem freeze_lines : (freeze s).lines = s.lines := rfl
@[simp] theorem freeze_choices : (freeze s).choices = s.choices := rfl
@[simp] theorem freeze_pending : (freeze s).pending = s.pending := rfl

/-! ### countHits -/

@[simp] theorem countHits_rqp (set : BitVec 16) : (countHits set s).rqp = s.rqp := rfl
@[simp] theorem countHits_rows (set : BitVec 16) : (countHits set s).rows = s.rows := rfl
@[simp] theorem countHits_fq (set : BitVec 16) : (countHits set s).fq = s.fq := rfl
@[simp] theorem countHits_entries (set : BitVec 16) : (countHits set s).entries = s.entries := rfl
@[simp] theorem countHits_hold (set : BitVec 16) : (countHits set s).hold = s.hold := rfl
@[simp] theorem countHits_sc (set : BitVec 16) : (countHits set s).sc = s.sc := rfl
@[simp] theorem countHits_tb (set : BitVec 16) : (countHits set s).tb = s.tb := rfl
@[simp] theorem countHits_counters (set : BitVec 16) : (countHits set s).counters = s.counters := rfl
@[simp] theorem countHits_rbl (set : BitVec 16) : (countHits set s).rbl = s.rbl := rfl
@[simp] theorem countHits_cq (set : BitVec 16) : (countHits set s).cq = s.cq := rfl
@[simp] theorem countHits_rw (set : BitVec 16) : (countHits set s).rw = s.rw := rfl
@[simp] theorem countHits_mpa (set : BitVec 16) : (countHits set s).mpa = s.mpa := rfl
@[simp] theorem countHits_au (set : BitVec 16) : (countHits set s).au = s.au := rfl
@[simp] theorem countHits_mgp (set : BitVec 16) : (countHits set s).mgp = s.mgp := rfl
@[simp] theorem countHits_lines (set : BitVec 16) : (countHits set s).lines = s.lines := rfl
@[simp] theorem countHits_choices (set : BitVec 16) : (countHits set s).choices = s.choices := rfl
@[simp] theorem countHits_pending (set : BitVec 16) : (countHits set s).pending = s.pending := rfl

/-! ### releasePort -/

@[simp] theorem releasePort_rows : (releasePort s).rows = s.rows := rfl
@[simp] theorem releasePort_fq : (releasePort s).fq = s.fq := rfl
@[simp] theorem releasePort_entries : (releasePort s).entries = s.entries := rfl
@[simp] theorem releasePort_totals : (releasePort s).totals = s.totals := rfl
@[simp] theorem releasePort_hold : (releasePort s).hold = s.hold := rfl
@[simp] theorem releasePort_sc : (releasePort s).sc = s.sc := rfl
@[simp] theorem releasePort_tb : (releasePort s).tb = s.tb := rfl
@[simp] theorem releasePort_counters : (releasePort s).counters = s.counters := rfl
@[simp] theorem releasePort_rbl : (releasePort s).rbl = s.rbl := rfl
@[simp] theorem releasePort_rw : (releasePort s).rw = s.rw := rfl
@[simp] theorem releasePort_mpa : (releasePort s).mpa = s.mpa := rfl
@[simp] theorem releasePort_au : (releasePort s).au = s.au := rfl
@[simp] theorem releasePort_mgp : (releasePort s).mgp = s.mgp := rfl
@[simp] theorem releasePort_lines : (releasePort s).lines = s.lines := rfl
@[simp] theorem releasePort_choices : (releasePort s).choices = s.choices := rfl
@[simp] theorem releasePort_pending : (releasePort s).pending = s.pending := rfl

/-! ### grantForward -/

@[simp] theorem grantForward_rqp (tag : Fin 8) (rest : List (Fin 8)) (n : Nat) : (grantForward tag rest n s).rqp = s.rqp := rfl
@[simp] theorem grantForward_entries (tag : Fin 8) (rest : List (Fin 8)) (n : Nat) : (grantForward tag rest n s).entries = s.entries := rfl
@[simp] theorem grantForward_totals (tag : Fin 8) (rest : List (Fin 8)) (n : Nat) : (grantForward tag rest n s).totals = s.totals := rfl
@[simp] theorem grantForward_hold (tag : Fin 8) (rest : List (Fin 8)) (n : Nat) : (grantForward tag rest n s).hold = s.hold := rfl
@[simp] theorem grantForward_sc (tag : Fin 8) (rest : List (Fin 8)) (n : Nat) : (grantForward tag rest n s).sc = s.sc := rfl
@[simp] theorem grantForward_tb (tag : Fin 8) (rest : List (Fin 8)) (n : Nat) : (grantForward tag rest n s).tb = s.tb := rfl
@[simp] theorem grantForward_counters (tag : Fin 8) (rest : List (Fin 8)) (n : Nat) : (grantForward tag rest n s).counters = s.counters := rfl
@[simp] theorem grantForward_rbl (tag : Fin 8) (rest : List (Fin 8)) (n : Nat) : (grantForward tag rest n s).rbl = s.rbl := rfl
@[simp] theorem grantForward_cq (tag : Fin 8) (rest : List (Fin 8)) (n : Nat) : (grantForward tag rest n s).cq = s.cq := rfl
@[simp] theorem grantForward_rw (tag : Fin 8) (rest : List (Fin 8)) (n : Nat) : (grantForward tag rest n s).rw = s.rw := rfl
@[simp] theorem grantForward_au (tag : Fin 8) (rest : List (Fin 8)) (n : Nat) : (grantForward tag rest n s).au = s.au := rfl
@[simp] theorem grantForward_mgp (tag : Fin 8) (rest : List (Fin 8)) (n : Nat) : (grantForward tag rest n s).mgp = s.mgp := rfl
@[simp] theorem grantForward_lines (tag : Fin 8) (rest : List (Fin 8)) (n : Nat) : (grantForward tag rest n s).lines = s.lines := rfl
@[simp] theorem grantForward_choices (tag : Fin 8) (rest : List (Fin 8)) (n : Nat) : (grantForward tag rest n s).choices = s.choices := rfl
@[simp] theorem grantForward_pending (tag : Fin 8) (rest : List (Fin 8)) (n : Nat) : (grantForward tag rest n s).pending = s.pending := rfl

/-! ### grantRing -/

@[simp] theorem grantRing_rqp (b : Burst) : (grantRing b s).rqp = s.rqp := rfl
@[simp] theorem grantRing_rows (b : Burst) : (grantRing b s).rows = s.rows := rfl
@[simp] theorem grantRing_fq (b : Burst) : (grantRing b s).fq = s.fq := rfl
@[simp] theorem grantRing_entries (b : Burst) : (grantRing b s).entries = s.entries := rfl
@[simp] theorem grantRing_totals (b : Burst) : (grantRing b s).totals = s.totals := rfl
@[simp] theorem grantRing_hold (b : Burst) : (grantRing b s).hold = s.hold := rfl
@[simp] theorem grantRing_sc (b : Burst) : (grantRing b s).sc = s.sc := rfl
@[simp] theorem grantRing_tb (b : Burst) : (grantRing b s).tb = s.tb := rfl
@[simp] theorem grantRing_counters (b : Burst) : (grantRing b s).counters = s.counters := rfl
@[simp] theorem grantRing_rbl (b : Burst) : (grantRing b s).rbl = s.rbl := rfl
@[simp] theorem grantRing_cq (b : Burst) : (grantRing b s).cq = s.cq := rfl
@[simp] theorem grantRing_au (b : Burst) : (grantRing b s).au = s.au := rfl
@[simp] theorem grantRing_mgp (b : Burst) : (grantRing b s).mgp = s.mgp := rfl
@[simp] theorem grantRing_lines (b : Burst) : (grantRing b s).lines = s.lines := rfl
@[simp] theorem grantRing_choices (b : Burst) : (grantRing b s).choices = s.choices := rfl
@[simp] theorem grantRing_pending (b : Burst) : (grantRing b s).pending = s.pending := rfl

/-! ### What the updates of one row read back -/

@[simp] theorem modifyRow_same (tag : Fin 8) (f : Row → Row) :
    (modifyRow tag f s).rows[tag.val] = f s.rows[tag.val] := by
  simp [modifyRow]

@[simp] theorem modifyRow_other (tag : Fin 8) (u : Nat) (hu : u < 8) (f : Row → Row) (h : tag.val ≠ u) :
    (modifyRow tag f s).rows[u] = s.rows[u] := by
  simp [modifyRow, h]

@[simp] theorem mapVec_getElem {α β : Type} {n : Nat} (f : α → β) (v : Vector α n) (i : Nat) (h : i < n) :
    (mapVec f v)[i] = f v[i] := by
  simp [mapVec]

@[simp] theorem mapRows_getElem (f : Row → Row) (u : Nat) (hu : u < 8) : (mapRows f s).rows[u] = f s.rows[u] := by
  simp [mapRows]

@[simp] theorem queueForward_fq (tag : Fin 8) : (queueForward tag s).fq = s.fq ++ [tag] := rfl

@[simp] theorem respond_ready (r : Response) : (respond r s).rqp.ready = s.rqp.ready ++ [r] := rfl

@[simp] theorem deliverRow_ready (tag : Fin 8) (status : RespStatus) :
    (deliverRow tag status s).rqp.ready =
      s.rqp.ready ++ [{ status := status, tag := tag, data := responseData s.rows[tag] status }] := rfl

@[simp] theorem deliverRow_same (tag : Fin 8) (status : RespStatus) :
    (deliverRow tag status s).rows[tag.val] = Row.empty := by
  simp [deliverRow]

@[simp] theorem deliverRow_other (tag : Fin 8) (u : Nat) (hu : u < 8) (status : RespStatus) (h : tag.val ≠ u) :
    (deliverRow tag status s).rows[u] = s.rows[u] := by
  simp [deliverRow, h]

@[simp] theorem countLost_records (n : Nat) : (countLost n s).cq.records = s.cq.records := rfl

@[simp] theorem discardCounted_records : (discardCounted s).cq.records = [] := rfl

@[simp] theorem discardCounted_claim : (discardCounted s).cq.claim = none := rfl

@[simp] theorem releasePort_acceptance : (releasePort s).rqp.acceptance = .idle := rfl

@[simp] theorem releasePort_claim : (releasePort s).cq.claim = none := rfl

end Sys2Proof.Machine
end

