-- ==== Sys2Proof/Laws/Fixed.lean ====
section
/-! SUPPORT. What no event of the block touches: one lemma for each shared operation, so that no proof unfolds the
operation to see that the configuration, the timebase, the lines, the Management Port and READ stay. -/

namespace Sys2Proof.Machine

/-- The part of the state that requests, responses, records, causes, releases, stops and grants leave alone. -/
structure Fixed where
  setup   : Setup
  tb      : Timebase
  lines   : Lines
  mgp     : ManagementPort
  read    : Word
  choices : Nat
  pending : List Instr

/-- That part of a state. -/
def State.fixed (s : State) : Fixed :=
  { setup := s.setup, tb := s.tb, lines := s.lines, mgp := s.mgp, read := s.rw.read, choices := s.choices,
    pending := s.pending }

variable (s : State)

/-! ### Plain updates -/

@[simp] theorem modifyRow_fixed (tag : Fin 8) (f : Row → Row) : (modifyRow tag f s).fixed = s.fixed := rfl
@[simp] theorem mapRows_fixed (f : Row → Row) : (mapRows f s).fixed = s.fixed := rfl
@[simp] theorem queueForward_fixed (tag : Fin 8) : (queueForward tag s).fixed = s.fixed := rfl
@[simp] theorem respond_fixed (r : Response) : (respond r s).fixed = s.fixed := rfl
@[simp] theorem deliverRow_fixed (tag : Fin 8) (st : RespStatus) : (deliverRow tag st s).fixed = s.fixed := rfl
@[simp] theorem clearDebt_fixed (tag : Fin 8) : (clearDebt tag s).fixed = s.fixed := rfl
@[simp] theorem countLost_fixed (n : Nat) : (countLost n s).fixed = s.fixed := rfl
@[simp] theorem discardCounted_fixed : (discardCounted s).fixed = s.fixed := rfl
@[simp] theorem startPlacement_fixed (p : Placement) : (startPlacement p s).fixed = s.fixed := rfl
@[simp] theorem freeSlot_fixed (n : Fin 2) : (freeSlot n s).fixed = s.fixed := rfl
@[simp] theorem countHits_fixed (set : BitVec 16) : (countHits set s).fixed = s.fixed := rfl
@[simp] theorem releasePort_fixed : (releasePort s).fixed = s.fixed := rfl
@[simp] theorem grantForward_fixed (tag : Fin 8) (rest : List (Fin 8)) (n : Nat) :
    (grantForward tag rest n s).fixed = s.fixed := rfl
@[simp] theorem grantRing_fixed (b : Burst) : (grantRing b s).fixed = s.fixed := rfl

/-- A change of the counters that keeps their configured fields leaves the fixed part alone. -/
theorem counters_fixed (cs : Vector Counter 4) (h : ∀ n : Fin 4, cs[n].setup = s.counters[n].setup) :
    ({ s with counters := cs } : State).fixed = s.fixed := by
  have e : mapVec Counter.setup cs = mapVec Counter.setup s.counters := by
    apply Vector.ext
    intro i hi
    simpa using h ⟨i, hi⟩
  simp [State.fixed, State.setup, e]

@[simp] theorem freeze_fixed : (freeze s).fixed = s.fixed := by
  have h := counters_fixed (mapRows (fun r => { r with late := 0#16 }) s)
    (mapVec (fun c => { c with tickPending := false }) s.counters) (fun n => by simp [Counter.setup])
  simpa [freeze] using h

/-! ### Causes, records -/

@[simp] theorem raise_fixed (cls : Option (Fin 4)) (k : CauseKind) (i : Nat) : (raise cls k i s).fixed = s.fixed := by
  cases cls <;> rfl

@[simp] theorem raiseMapped_fixed (k : CauseKind) (i : Nat) : (raiseMapped k i s).fixed = s.fixed := raise_fixed s _ k i

@[simp] theorem dropRecord_fixed : (dropRecord s).fixed = s.fixed := by
  unfold dropRecord
  split
  · exact raiseMapped_fixed _ _ _
  · rfl

@[simp] theorem append_fixed (rs : List Record) : (append rs s).fixed = s.fixed := by
  unfold append
  dsimp only
  split
  · exact raiseMapped_fixed _ _ _
  · rfl

theorem admitBundle_fixed (own : Bool) (b : RecordBody) {t : State} (h : admitBundle own b s = some t) : t.fixed = s.fixed := by
  unfold admitBundle at h
  split at h
  · simp only [Option.some.injEq] at h
    subst h
    exact append_fixed s _
  · exact absurd h (by simp)

/-! ### Ring Writer -/

@[simp] theorem compareWatermark_fixed : (compareWatermark s).fixed = s.fixed := by
  unfold compareWatermark
  split
  · exact raiseMapped_fixed _ _ _
  · rfl

@[simp] theorem publish_fixed (p : Placement) : (publish p s).fixed = s.fixed := by
  unfold publish
  exact compareWatermark_fixed _

@[simp] theorem arbitrate_fixed : (arbitrate s).fixed = s.fixed := by
  unfold arbitrate
  repeat' split
  all_goals rfl

/-! ### Releases and stops -/

/-- A way to deal with a release's record that leaves the fixed part alone. -/
abbrev FixedMake (make : HitRecord → State → State) : Prop := ∀ h t, (make h t).fixed = t.fixed

theorem releaseSlot_fixed {make : HitRecord → State → State} (hm : FixedMake make) (n : Fin 2) (d : Disposition)
    (words : List Word) : (releaseSlot make n d words s).fixed = s.fixed := by
  unfold releaseSlot
  split
  · rfl
  · dsimp only
    repeat' split
    all_goals simp [hm _ _]

theorem releaseBoth_fixed {make : HitRecord → State → State} (hm : FixedMake make) :
    (releaseBoth make s).fixed = s.fixed := by
  unfold releaseBoth
  rw [releaseSlot_fixed _ hm, releaseSlot_fixed _ hm]

theorem enterStoppingWith_fixed {make : HitRecord → State → State} (hm : FixedMake make) (reason : StopReason) :
    (enterStoppingWith make reason s).fixed = s.fixed := by
  unfold enterStoppingWith
  rw [releaseBoth_fixed _ hm, freeze_fixed]
  rfl

theorem lost_fixed : FixedMake fun _ => countLost 1 := fun _ _ => rfl

@[simp] theorem ringFinished_fixed : (ringFinished s).fixed = s.fixed := by
  unfold ringFinished
  dsimp only
  split
  · rw [enterStoppingWith_fixed _ lost_fixed, raiseMapped_fixed]
    rfl
  · rw [raiseMapped_fixed]
    rfl

@[simp] theorem formPlacement_fixed : (formPlacement s).fixed = s.fixed := by
  unfold formPlacement
  repeat' split
  all_goals first | rfl | simp

@[simp] theorem takeHead_fixed : (takeHead s).fixed = s.fixed := by
  unfold takeHead
  split
  · exact formPlacement_fixed s
  · rfl

@[simp] theorem offer_fixed (own : Bool) (b : RecordBody) : (offer own b s).fixed = s.fixed := by
  unfold offer
  split
  · rfl
  · split
    · rename_i t h
      rw [takeHead_fixed, admitBundle_fixed s own b h]
    · exact dropRecord_fixed s

@[simp] theorem makeHit_fixed (own : Bool) (h : HitRecord) : (makeHit own h s).fixed = s.fixed := by
  unfold makeHit
  split
  · exact offer_fixed s own _
  · rfl

theorem makeHit_fixedMake (own : Bool) : FixedMake (makeHit own) := fun h t => makeHit_fixed t own h

@[simp] theorem enterStopping_fixed (reason : StopReason) : (enterStopping reason s).fixed = s.fixed :=
  enterStoppingWith_fixed s (makeHit_fixedMake false) reason

@[simp] theorem stopRequest_fixed (reason : StopReason) : (stopRequest reason s).fixed = s.fixed := by
  unfold stopRequest
  split
  · exact enterStopping_fixed s reason
  · rfl

@[simp] theorem levelRequest_fixed (v : Fin 4) (cause : LevelCause) (i : Nat) :
    (levelRequest v cause i s).fixed = s.fixed := by
  unfold levelRequest
  split
  · dsimp only
    split
    · rw [offer_fixed]
      rfl
    · rfl
  · rfl

/-! ### Counters -/

theorem Counter.expire_setup (c : Counter) : c.expire.setup = c.setup := rfl

theorem Counter.take_setup (c : Counter) (ev : CounterEvent) (n : Fin 4) (e : BitVec 4) :
    (c.take ev n e).1.setup = c.setup := by
  unfold Counter.take
  repeat' split
  all_goals rfl

theorem takeEvent_setup (ev : CounterEvent) (cs : Vector Counter 4) (n : Fin 4) :
    (takeEvent ev cs).1[n].setup = cs[n].setup := by
  have h : ∀ (l : List (Fin 4)) (acc : Vector Counter 4 × BitVec 4),
      (∀ m : Fin 4, acc.1[m].setup = cs[m].setup) →
      ∀ m : Fin 4, (l.foldl
        (fun acc (n : Fin 4) =>
          let r := (acc.1[n]).take ev n acc.2
          (acc.1.set n r.1, if r.2 then acc.2 ||| (1#4 <<< n.val) else acc.2)) acc).1[m].setup = cs[m].setup := by
    intro l
    induction l with
    | nil => intro acc ha m; exact ha m
    | cons x l ih =>
      intro acc ha m
      refine ih _ ?_ m
      intro k
      by_cases hk : x.val = k.val
      · have : x = k := Fin.ext hk
        subst this
        simpa [Counter.take_setup] using ha x
      · simpa [hk] using ha k
  exact h allCounters (cs, 0#4) (fun _ => rfl) n

/-- A fold of operations that leave the fixed part alone leaves it alone. -/
theorem foldl_fixed {α : Type} (f : State → α → State) (h : ∀ t x, (f t x).fixed = t.fixed) (l : List α) :
    (l.foldl f s).fixed = s.fixed := by
  induction l generalizing s with
  | nil => rfl
  | cons x l ih => rw [List.foldl_cons, ih, h]

@[simp] theorem expiryActions_fixed (n : Fin 4) : (expiryActions n s).fixed = s.fixed := by
  unfold expiryActions
  dsimp only
  repeat' split
  all_goals simp

@[simp] theorem expiryStop_fixed (n : Fin 4) : (expiryStop n s).fixed = s.fixed := by
  unfold expiryStop
  split
  · exact stopRequest_fixed s _
  · rfl

@[simp] theorem counterEvent_fixed (ev : CounterEvent) : (counterEvent ev s).fixed = s.fixed := by
  unfold counterEvent
  split
  · dsimp only
    rw [foldl_fixed _ _ (fun t x => expiryStop_fixed t x), foldl_fixed _ _ (fun t x => expiryActions_fixed t x)]
    exact counters_fixed s _ (fun n => takeEvent_setup ev s.counters n)
  · rfl

/-! ### The decision -/

@[simp] theorem raiseHits_fixed (l : List (Fin 16 × Fin 4)) : (raiseHits l s).fixed = s.fixed :=
  foldl_fixed s _ (fun t _ => raise_fixed t _ _ _) l

@[simp] theorem requestLevel_fixed (o : Option (Fin 16 × Fin 4)) : (requestLevel o s).fixed = s.fixed := by
  unfold requestLevel
  split
  · exact levelRequest_fixed s _ _ _
  · rfl

@[simp] theorem requestStop_fixed (o : Option (Fin 16)) : (requestStop o s).fixed = s.fixed := by
  unfold requestStop
  split
  · exact stopRequest_fixed s _
  · rfl

@[simp] theorem notify_fixed (tag : Fin 8) (n : BitVec 4) : (notify tag n s).fixed = s.fixed := by
  unfold notify
  rw [counterEvent_fixed, modifyRow_fixed]

@[simp] theorem handOn_fixed (tag : Fin 8) (o : MatchOutcome) : (handOn tag o s).fixed = s.fixed := by
  simp [handOn]

@[simp] theorem writeRecord_fixed (tag : Fin 8) (d : Disposition) (r : Bool) :
    (writeRecord tag d r s).fixed = s.fixed := by
  unfold writeRecord
  split
  · simp
  · rfl

@[simp] theorem decideForward_fixed (tag : Fin 8) (d : Disposition) (r : Bool) :
    (decideForward tag d r s).fixed = s.fixed := by
  simp [decideForward]

@[simp] theorem decideBlock_fixed (tag : Fin 8) (st : RespStatus) : (decideBlock tag st s).fixed = s.fixed := by
  unfold decideBlock
  dsimp only
  split
  · simp
  · simp

@[simp] theorem park_fixed (tag : Fin 8) (n : Fin 2) : (park tag n s).fixed = s.fixed := by
  unfold park
  dsimp only
  rw [raise_fixed, modifyRow_fixed]
  rfl

@[simp] theorem carryOut_fixed (tag : Fin 8) (v : Verdict) : (carryOut tag v s).fixed = s.fixed := by
  unfold carryOut
  split
  · simp
  · simp
  · unfold decideHold
    repeat' split
    all_goals simp

@[simp] theorem decideRequest_fixed (tag : Fin 8) (o : MatchOutcome) : (decideRequest tag o s).fixed = s.fixed := by
  simp [decideRequest]

/-! ### The gates and what follows a step -/

@[simp] theorem passGate_fixed (tag : Fin 8) (o : MatchOutcome) : (passGate tag o s).fixed = s.fixed := by
  unfold passGate
  rw [decideRequest_fixed]
  rfl

@[simp] theorem losslessGate_fixed (tag : Fin 8) (o : MatchOutcome) : (losslessGate tag o s).fixed = s.fixed := by
  unfold losslessGate
  repeat' split
  all_goals first | rfl | simp

@[simp] theorem takeRequest_fixed (r : Request) : (takeRequest r s).fixed = s.fixed := by
  unfold takeRequest
  split <;> simp

@[simp] theorem conflictGate_fixed (r : Request) : (conflictGate r s).fixed = s.fixed := by
  unfold conflictGate
  split
  · rfl
  · rw [takeRequest_fixed]
    rfl

@[simp] theorem readRequest_fixed (r : Request) : (readRequest r s).fixed = s.fixed := by
  unfold readRequest
  repeat' split
  all_goals first | rfl | simp

@[simp] theorem readOldest_fixed : (readOldest s).fixed = s.fixed := by
  unfold readOldest
  split
  · rw [readRequest_fixed]
    rfl
  · rfl

@[simp] theorem loseWaitingRow_fixed (tag : Fin 8) : (loseWaitingRow tag s).fixed = s.fixed := by
  unfold loseWaitingRow
  split
  · simp
  · rfl

@[simp] theorem loseWaitingWrite_fixed : (loseWaitingWrite s).fixed = s.fixed := by
  unfold loseWaitingWrite
  split
  · rw [decideRequest_fixed, clearDebt_fixed]
    split <;> simp
  · rfl
  · rfl
  · rfl

@[simp] theorem endLosslessWaits_fixed : (endLosslessWaits s).fixed = s.fixed := by
  unfold endLosslessWaits
  split
  · rfl
  · rw [loseWaitingWrite_fixed, foldl_fixed _ _ (fun t x => loseWaitingRow_fixed t x)]

@[simp] theorem offerStop_fixed : (offerStop s).fixed = s.fixed := by
  unfold offerStop
  split
  · rfl
  · split
    · rename_i t h
      have e := admitBundle_fixed s false _ h
      rw [takeHead_fixed]
      exact e
    · rfl

@[simp] theorem stopProgress_fixed : (stopProgress s).fixed = s.fixed := by
  unfold stopProgress
  repeat' split
  all_goals first | rfl | simp

@[simp] theorem resumeWait_fixed : (resumeWait s).fixed = s.fixed := by
  unfold resumeWait
  repeat' split
  all_goals first | rfl | simp

@[simp] theorem stopComplete_fixed : (stopComplete s).fixed = s.fixed := by
  unfold stopComplete
  split
  · rw [raiseMapped_fixed]
    rfl
  · rfl

@[simp] theorem finish_fixed : (finish s).fixed = s.fixed := by
  simp [finish]

@[simp] theorem enterFault_fixed : (enterFault s).fixed = s.fixed := by
  unfold enterFault
  split
  · dsimp only
    have ha : ∀ t : State, (abandonStop t).fixed = t.fixed := by
      intro t
      unfold abandonStop
      split <;> rfl
    rw [raise_fixed, ha, endLosslessWaits_fixed, discardCounted_fixed, releaseBoth_fixed _ lost_fixed, freeze_fixed]
    rfl
  · rfl

/-! ### Memory responses -/

@[simp] theorem lateMatch_fixed (tag : Fin 8) : (lateMatch tag s).fixed = s.fixed := by
  simp [lateMatch]

@[simp] theorem startWait_fixed (tag : Fin 8) (h : HitRecord) (st : RespStatus) :
    (startWait tag h st s).fixed = s.fixed := rfl

@[simp] theorem settleRead_fixed (tag : Fin 8) (st : RespStatus) : (settleRead tag st s).fixed = s.fixed := by
  unfold settleRead
  dsimp only
  split
  · split
    · split
      · rename_i t h
        rw [deliverRow_fixed, clearDebt_fixed, takeHead_fixed, admitBundle_fixed s false _ h]
      · split <;> simp
    · simp
  · simp

@[simp] theorem readResponse_fixed (tag : Fin 8) (st : RespStatus) (ws : List Word) :
    (readResponse tag st ws s).fixed = s.fixed := by
  unfold readResponse
  dsimp only
  split <;> simp

@[simp] theorem forwardedResponse_fixed (tag : Fin 8) (st : RespStatus) (ws : List Word) :
    (forwardedResponse tag st ws s).fixed = s.fixed := by
  unfold forwardedResponse
  repeat' split
  all_goals first | rfl | simp

@[simp] theorem burstDone_fixed (b : Burst) : (burstDone b s).fixed = s.fixed := by
  unfold burstDone
  dsimp only
  repeat' split
  · rw [takeHead_fixed, publish_fixed]
    rfl
  · rfl
  · rfl

@[simp] theorem ringResponse_fixed (st : RespStatus) : (ringResponse st s).fixed = s.fixed := by
  unfold ringResponse burstFailed
  repeat' split
  all_goals first | rfl | (simp; done) | (rw [finish_fixed, enterFault_fixed]; rfl) | (rw [finish_fixed, takeHead_fixed]; rfl)

/-! ### Events that fall due -/

@[simp] theorem gatePass_fixed : (gatePass s).fixed = s.fixed := by
  unfold gatePass
  repeat' split
  all_goals first | rfl | (rw [finish_fixed, passGate_fixed]; rfl)

@[simp] theorem placeWaiting_fixed (tag : Fin 8) : (placeWaiting tag s).fixed = s.fixed := by
  unfold placeWaiting
  split
  · split
    · split
      · rename_i t h
        rw [finish_fixed, deliverRow_fixed, clearDebt_fixed, takeHead_fixed, admitBundle_fixed s false _ h]
      · rfl
    · rfl
  · rfl

@[simp] theorem reofferStop_fixed : (reofferStop s).fixed = s.fixed := by
  unfold reofferStop
  split <;> simp

@[simp] theorem stallDrop_fixed (tag : Fin 8) : (stallDrop tag s).fixed = s.fixed := by
  unfold stallDrop
  dsimp only
  rw [clearDebt_fixed, raiseMapped_fixed]
  exact dropRecord_fixed s

@[simp] theorem stallTimeout_fixed (tag : Fin 8) : (stallTimeout tag s).fixed = s.fixed := by
  unfold stallTimeout stallRead stallWrite
  repeat' split
  all_goals first | rfl | simp

@[simp] theorem expireCounters_fixed : (expireCounters s).fixed = s.fixed := by
  unfold expireCounters
  split <;> simp

@[simp] theorem holdExpire_fixed (n : Fin 2) : (holdExpire n s).fixed = s.fixed := by
  unfold holdExpire
  split
  · dsimp only
    rw [finish_fixed, raise_fixed, releaseSlot_fixed _ (makeHit_fixedMake false)]
  · rfl

@[simp] theorem autonomousGap_fixed : (autonomousGap s).fixed = s.fixed := by
  unfold autonomousGap
  split
  · split
    · have e := append_fixed s [gapRecord Config.autoGapCount]
      generalize append [gapRecord Config.autoGapCount] s = t at e ⊢
      rw [finish_fixed, takeHead_fixed, ← e]
      simp only [State.fixed, State.setup]
    · rfl
  · rfl

@[simp] theorem settle_fixed : (settle s).fixed = s.fixed := by
  unfold settle
  dsimp only
  rw [foldl_fixed _ _ (fun t x => stallTimeout_fixed t x), holdExpire_fixed, holdExpire_fixed, expireCounters_fixed,
    autonomousGap_fixed, reofferStop_fixed, foldl_fixed _ _ (fun t x => placeWaiting_fixed t x), gatePass_fixed]

end Sys2Proof.Machine
end

