-- ==== Sys2Proof/Laws/Rest.lean ====
section
/-! SUPPORT. A state at rest is left alone by the end of a step. -/

namespace Sys2Proof.Machine

variable {s : State}

theorem endLosslessWaits_of_none (hw : s.waitStands = true)
    (hr : s.mayWait = true ∨ ∀ t : Fin 8, s.rows[t].state ≠ .responding) : endLosslessWaits s = s := by
  unfold endLosslessWaits
  split
  · rfl
  · rename_i hm
    have hrows := hr.resolve_left hm
    have hf : ∀ l : List (Fin 8), l.foldl (fun a t => loseWaitingRow t a) s = s := by
      intro l
      induction l with
      | nil => rfl
      | cons x l ih =>
        have e : loseWaitingRow x s = s := by
          have := hrows x
          unfold loseWaitingRow
          split
          · rename_i h _
            exact absurd h this
          · rfl
        rw [List.foldl_cons, e, ih]
    rw [hf]
    unfold loseWaitingWrite
    unfold State.waitStands at hw
    split
    · rename_i h
      rw [h] at hw
      exact absurd hw hm
    all_goals rfl

theorem stopProgress_of_stands (h : s.sc.session = .stopping → s.stoppingStands = true) : stopProgress s = s := by
  unfold stopProgress
  split
  · rename_i hs
    have h' := h hs
    unfold State.stoppingStands at h'
    split at h' <;> simp_all
  · rfl

theorem stopComplete_of_stands (h : s.sc.session = .stopping → s.stoppingStands = true) : stopComplete s = s := by
  unfold stopComplete
  split
  · rename_i hs
    have h' := h hs.1
    unfold State.stoppingStands at h'
    simp_all
  · rfl

theorem resumeWait_of_stands (h : s.waitStands = true) : resumeWait s = s := by
  unfold State.waitStands at h
  unfold resumeWait
  split
  · rename_i hr
    rw [hr] at h
    simp at h
    simp [h]
  · rename_i hr
    rw [hr] at h
    simp only [conflictGate, h, if_true]
    rw [← hr]
  all_goals rfl

theorem arbitrate_of_noGrant (h : s.noGrant = true) : arbitrate s = s := by
  unfold State.noGrant at h
  unfold arbitrate
  split
  · rfl
  · rename_i hp
    rw [hp] at h
    simp at h
    simp [h]

/-- The end of a step leaves a state at rest alone. -/
theorem finish_of_atRest (h : s.atRest) : finish s = s := by
  obtain ⟨hw, hr, hs, hg⟩ := h
  unfold finish
  rw [endLosslessWaits_of_none hw hr, stopProgress_of_stands hs, resumeWait_of_stands hw,
    endLosslessWaits_of_none hw hr, stopProgress_of_stands hs, stopComplete_of_stands hs, arbitrate_of_noGrant hg]

end Sys2Proof.Machine
end

