-- ==== Sys2Proof/Laws/Ops.lean ====
section
/-! SUPPORT. The cases of the shared operations, each as an equation, so that a proof rewrites by the case it is in. -/

namespace Sys2Proof.Machine

variable {s : State}

/-! ### Bundles and offers -/

/-- A bundle fits or it does not (R122). -/
theorem admitBundle_isSome {own : Bool} {b : RecordBody} :
    (admitBundle own b s).isSome = true ↔ wordsIn (bundle s b) ≤ s.cq.room own := by
  unfold admitBundle
  split <;> simp_all

theorem admitBundle_of_full {own : Bool} {b : RecordBody} (h : s.cq.room own < wordsIn (bundle s b)) :
    admitBundle own b s = none := by
  unfold admitBundle
  rw [if_neg (by omega)]

/-- An offer after RING_DONE is counted (R132). -/
theorem offer_of_ringDone {own : Bool} {b : RecordBody} (h : s.rw.ringDone = true) :
    offer own b s = countLost 1 s := by
  simp [offer, h]

/-- An offer that fits is placed (R122). -/
theorem offer_of_admitted {own : Bool} {b : RecordBody} {t : State} (h : s.rw.ringDone = false)
    (ha : admitBundle own b s = some t) : offer own b s = takeHead t := by
  simp [offer, h, ha]

/-- An offer that does not fit is dropped (R123). -/
theorem offer_of_full {own : Bool} {b : RecordBody} (h : s.rw.ringDone = false)
    (hf : s.cq.room own < wordsIn (bundle s b)) : offer own b s = dropRecord s := by
  simp [offer, h, admitBundle_of_full hf]

/-- A HIT record is offered in a session (R105). -/
theorem makeHit_of_records {own : Bool} {x : HitRecord} (h : s.sc.session.records = true) :
    makeHit own x s = offer own (.hit x) s := by
  simp [makeHit, h]

/-- A HIT record outside a session is counted (R54). -/
theorem makeHit_of_no_records {own : Bool} {x : HitRecord} (h : s.sc.session.records = false) :
    makeHit own x s = countLost 1 s := by
  simp [makeHit, h]

/-! ### Causes -/

theorem raise_none (k : CauseKind) (i : Nat) : raise none k i s = s := rfl

theorem raise_some (c : Fin 4) (k : CauseKind) (i : Nat) :
    raise (some c) k i s = s.withClass c (s.au.classes[c].add k i) := rfl

/-! ### Requests to the Session Controller, slots -/

theorem stopRequest_of_watching {r : StopReason} (h : s.sc.session = .watching) :
    stopRequest r s = enterStopping r s := by
  simp [stopRequest, h]

theorem stopRequest_of_not_watching {r : StopReason} (h : s.sc.session ≠ .watching) : stopRequest r s = s := by
  simp [stopRequest, h]

theorem levelRequest_of_not_watching {v : Fin 4} {c : LevelCause} {i : Nat} (h : s.sc.session ≠ .watching) :
    levelRequest v c i s = s := by
  simp [levelRequest, h]

theorem levelRequest_same {c : LevelCause} {i : Nat} : levelRequest s.sc.level c i s = s := by
  simp [levelRequest]

theorem counterEvent_of_not_watching {ev : CounterEvent} (h : s.sc.session ≠ .watching) : counterEvent ev s = s := by
  simp [counterEvent, h]

theorem releaseSlot_of_free {make : HitRecord → State → State} {n : Fin 2} {d : Disposition} {ws : List Word}
    (h : s.hold.slots[n] = none) : releaseSlot make n d ws s = s := by
  simp [releaseSlot, h]

/-! ### The Ring Writer and the port -/

theorem takeHead_of_busy (h : s.rw.writer ≠ .idle) : takeHead s = s := by
  simp [takeHead, h]

theorem takeHead_of_no_records (h : s.sc.session.records = false) : takeHead s = s := by
  simp [takeHead, h]

theorem formPlacement_of_empty (h : s.cq.records = []) : formPlacement s = s := by
  simp [formPlacement, h]

theorem formPlacement_of_write {h : Record} {rest : List Record} {p : Placement} (hq : s.cq.records = h :: rest)
    (hc : s.rw.choose h = .write p) : formPlacement s = startPlacement p s := by
  simp [formPlacement, hq, hc]

theorem formPlacement_of_waitSpace {h : Record} {rest : List Record} (hq : s.cq.records = h :: rest)
    (hc : s.rw.choose h = .waitSpace) : formPlacement s = { s with rw := { s.rw with writer := .waitSpace } } := by
  simp [formPlacement, hq, hc]

theorem formPlacement_of_finished {h : Record} {rest : List Record} (hq : s.cq.records = h :: rest)
    (hc : s.rw.choose h = .finished) : formPlacement s = ringFinished s := by
  simp [formPlacement, hq, hc]

theorem one_le_burstSize (a : Word) (n : Nat) : 1 ≤ burstSize a n := by
  unfold burstSize
  split <;> (try split) <;> (try split) <;> omega

/-- The fuel of the cutting does not matter once it reaches the words. -/
theorem cutRunWith_fuel (fuel : Nat) : ∀ (fuel' : Nat) (a : Word) (ws : List Word), ws.length ≤ fuel →
    ws.length ≤ fuel' → cutRunWith fuel a ws = cutRunWith fuel' a ws := by
  induction fuel with
  | zero => intro g a ws h _; cases ws <;> simp at h; cases g <;> rfl
  | succ n ih =>
    intro g a ws h hg
    cases ws with
    | nil => cases g <;> rfl
    | cons w ws =>
      cases g with
      | zero => simp at hg
      | succ g =>
        have := one_le_burstSize a (w :: ws).length
        simp only [cutRunWith]
        congr 1
        apply ih <;> simp only [List.length_drop, List.length_cons] at * <;> omega

/-- A run of words is its first burst and the run of the rest (R141). -/
theorem cutRun_cons (a w : Word) (ws : List Word) :
    cutRun a (w :: ws) =
      { address := a, words := (w :: ws).take (burstSize a (w :: ws).length) } ::
        cutRun (a + BitVec.ofNat 32 (4 * burstSize a (w :: ws).length))
          ((w :: ws).drop (burstSize a (w :: ws).length)) := by
  have := one_le_burstSize a (w :: ws).length
  rw [cutRun]
  simp only [List.length_cons, cutRunWith]
  congr 1
  rw [cutRun]
  apply cutRunWith_fuel <;> simp only [List.length_drop, List.length_cons] at * <;> omega

theorem arbitrate_of_issuing {d : Downstream} (h : s.mpa.port = .issuing d) : arbitrate s = s := by
  simp [arbitrate, h]

/-! ### RESTART -/

/-- No row changes its state or its request's fields by being stripped (R41). -/
theorem strip_state (r : Row) : r.strip.state = r.state ∧ r.strip.kind = r.kind ∧ r.strip.writeData = r.writeData ∧
    r.strip.readBuf = r.readBuf ∧ r.strip.wait = r.wait := by
  exact ⟨rfl, rfl, rfl, rfl, rfl⟩

/-! ### Commands of the Management Port -/

theorem takeCommand_of_receiving {n : Nat} {act : State → State × List Byte} (h : s.mgp.frame = .receiving) :
    takeCommand n act s = (act s).1.answered n (act s).2 := by
  simp [takeCommand, h, State.answered]

theorem takeCommand_of_not_receiving {n : Nat} {act : State → State × List Byte} (h : s.mgp.frame ≠ .receiving) :
    takeCommand n act s = s := by
  simp [takeCommand, h]

end Sys2Proof.Machine
end

