-- ==== Sys2Proof/WellFormed.lean ====
section
/-! DEFINITION. Which operands a command can have: what can stand on the buses and in a frame. A command that is not
well formed cannot be sent to the part; its meaning is defined all the same (assumption 28). -/

namespace Sys2Proof

/-- A request as the bus can carry it (TABLE 2.1): 1-8 beats, one data word a beat for a WRITE, none for a READ. -/
def Request.wellFormed (r : Request) : Bool :=
  (decide (1 ≤ r.beats) && decide (r.beats ≤ 8)) &&
    match r.kind with
    | .read => r.data.isEmpty
    | .write => r.data.length == r.beats

/-- A command with operands that its row can have. -/
def Instr.wellFormed : Instr → Bool
  | .request (some r) => r.wellFormed
  | .unknownCommand code => !namesCommand code
  | .getUnknownItem code => (itemOf code).isNone
  | .putUnsupportedItem code =>
    match itemOf code with
    | none => true
    | some i => i.getOnly
  | .release _ _ _ count words => if 8 < count.toNat then words.isEmpty else words.length == count.toNat
  | .request none | .losslessGatePass | .respondingRecordPlaced _ | .stopRecordReoffer | .losslessStallTimeout _
  | .responseDelivery _ | .memoryResponse _ | .portReturnToReady | .tick | .counterExpiry | .holdTimeout _
  | .autonomousGap | .pathReset | .prstDeasserted | .deviceReset | .resetRelease | .powerOn | .truncatedFrame
  | .frameEnd | .status | .getSession | .getRing | .getHold | .getTimebase | .getAlertmap | .getTotals | .getEntry _
  | .getCounter _ | .getSlot _ | .getInflight _ | .putSession _ | .putRing _ | .putHold _ | .putTimebase _
  | .putAlertmap _ | .putEntry _ _ | .putCounter _ _ | .arm | .stop | .restart | .clear | .level _ | .enable _
  | .disable _ | .readptr _ | .mark _ | .ack | .done | .frameStart | .csDeassertedAfterReset => true

end Sys2Proof
end

