-- ==== Sys2Proof/Laws/PerInstr.lean ====
section
/-! SUPPORT. One law, said for every command: operands that a frame spells are well formed. -/

namespace Sys2Proof.Laws.FrameWellFormed

/-- A command that has a frame is well formed (R166, R168). -/
def Statement (c : Instr) : Prop := Frame.encode c ≠ none → c.wellFormed = true

theorem request (r : Option Request) : Statement (.request r) := fun h => absurd rfl h

theorem losslessGatePass : Statement .losslessGatePass := fun _ => rfl

theorem respondingRecordPlaced (tag : Fin 8) : Statement (.respondingRecordPlaced tag) := fun _ => rfl

theorem stopRecordReoffer : Statement .stopRecordReoffer := fun _ => rfl

theorem losslessStallTimeout (tag : Fin 8) : Statement (.losslessStallTimeout tag) := fun _ => rfl

theorem responseDelivery (n : Nat) : Statement (.responseDelivery n) := fun _ => rfl

theorem memoryResponse (m : MemResponse) : Statement (.memoryResponse m) := fun _ => rfl

theorem portReturnToReady : Statement .portReturnToReady := fun _ => rfl

theorem tick : Statement .tick := fun _ => rfl

theorem counterExpiry : Statement .counterExpiry := fun _ => rfl

theorem holdTimeout (slot : Fin 2) : Statement (.holdTimeout slot) := fun _ => rfl

theorem autonomousGap : Statement .autonomousGap := fun _ => rfl

theorem pathReset : Statement .pathReset := fun _ => rfl

theorem prstDeasserted : Statement .prstDeasserted := fun _ => rfl

theorem deviceReset : Statement .deviceReset := fun _ => rfl

theorem resetRelease : Statement .resetRelease := fun _ => rfl

theorem powerOn : Statement .powerOn := fun _ => rfl

theorem truncatedFrame : Statement .truncatedFrame := fun _ => rfl

theorem frameEnd : Statement .frameEnd := fun _ => rfl

theorem unknownCommand (code : Byte) : Statement (.unknownCommand code) := by
  intro h
  unfold Frame.encode at h
  cases hc : namesCommand code <;> simp [hc, Instr.wellFormed] at h ⊢

theorem status : Statement .status := fun _ => rfl

theorem getSession : Statement .getSession := fun _ => rfl

theorem getRing : Statement .getRing := fun _ => rfl

theorem getHold : Statement .getHold := fun _ => rfl

theorem getTimebase : Statement .getTimebase := fun _ => rfl

theorem getAlertmap : Statement .getAlertmap := fun _ => rfl

theorem getTotals : Statement .getTotals := fun _ => rfl

theorem getEntry (n : Byte) : Statement (.getEntry n) := fun _ => rfl

theorem getCounter (n : Fin 4) : Statement (.getCounter n) := fun _ => rfl

theorem getSlot (n : Fin 2) : Statement (.getSlot n) := fun _ => rfl

theorem getInflight (n : Fin 8) : Statement (.getInflight n) := fun _ => rfl

theorem getUnknownItem (code : Byte) : Statement (.getUnknownItem code) := by
  intro h
  unfold Frame.encode at h
  cases hc : itemOf code <;> simp [hc, Instr.wellFormed] at h ⊢

theorem putSession (b : Bytes 4) : Statement (.putSession b) := fun _ => rfl

theorem putRing (b : Bytes 13) : Statement (.putRing b) := fun _ => rfl

theorem putHold (b : Bytes 5) : Statement (.putHold b) := fun _ => rfl

theorem putTimebase (b : Bytes 1) : Statement (.putTimebase b) := fun _ => rfl

theorem putAlertmap (b : Bytes 9) : Statement (.putAlertmap b) := fun _ => rfl

theorem putEntry (n : Fin 16) (b : Bytes 28) : Statement (.putEntry n b) := fun _ => rfl

theorem putCounter (n : Fin 4) (b : Bytes 11) : Statement (.putCounter n b) := fun _ => rfl

theorem putUnsupportedItem (code : Byte) : Statement (.putUnsupportedItem code) := by
  intro h
  cases hc : itemOf code <;> simp [Frame.encode, Instr.wellFormed, hc] at h ⊢
  exact h

theorem arm : Statement .arm := fun _ => rfl

theorem stop : Statement .stop := fun _ => rfl

theorem restart : Statement .restart := fun _ => rfl

theorem clear : Statement .clear := fun _ => rfl

theorem level (v : Byte) : Statement (.level v) := fun _ => rfl

theorem enable (n : Byte) : Statement (.enable n) := fun _ => rfl

theorem disable (n : Byte) : Statement (.disable n) := fun _ => rfl

theorem readptr (v : Word) : Statement (.readptr v) := fun _ => rfl

theorem mark (v : Word) : Statement (.mark v) := fun _ => rfl

theorem release (slot ticket disposition count : Byte) (words : List Word) :
    Statement (.release slot ticket disposition count words) := by
  intro h
  have g : (8 < count.toNat ∧ words = []) ∨ (count.toNat ≤ 8 ∧ words.length = count.toNat) :=
    Classical.byContradiction fun g => h (if_neg g)
  rcases g with ⟨h8, hw⟩ | ⟨h8, hw⟩
  · simp [Instr.wellFormed, h8, hw]
  · simp [Instr.wellFormed, hw, Nat.not_lt.mpr h8]

theorem ack : Statement .ack := fun _ => rfl

theorem done : Statement .done := fun _ => rfl

theorem frameStart : Statement .frameStart := fun _ => rfl

theorem csDeassertedAfterReset : Statement .csDeassertedAfterReset := fun _ => rfl

end Sys2Proof.Laws.FrameWellFormed
end

