-- ==== Sys2Proof/Tests/Slice0.lean ====
section
/-! SUPPORT. Tests: what WellFormed refuses, bytes of frames, one step of some commands on a small state, and for each
statement with hypotheses a state and operands that meet them. -/

namespace Sys2Proof.Tests

open Sys2Proof.Machine

set_option Elab.async false

/-! ### Small states -/

/-- A ring of 16 words at 1000h. -/
def ring16 : RingWriter :=
  { State.reset.rw with base := 0x1000#32, limit := 0x1040#32, watermark := 8, write := 0x1000#32, read := 0x1000#32 }

/-- A port that transfers a request. -/
def busyPort : Arbiter := { port := .issuing (ringRequest { address := 0x1000#32, words := [0#32] }), passOver := 0 }

/-- A frame RECEIVING, between sessions, the port READY. -/
def open0 : State :=
  { State.reset with
    tb := { State.reset.tb with ticks := 100#32 }
    rw := ring16
    mgp := { frame := .receiving, byteCount := 0, answer := [] }
    lines := { reset := false, prst := false, cs := true } }

/-- The same in a session state, the port busy and, in a session, the Ring Writer waiting for space. -/
def at_ (k : Session) : State :=
  { open0 with
    sc := { open0.sc with session := k }
    rw := { ring16 with writer := if k.records then .waitSpace else .idle }
    mpa := busyPort }

/-- WATCHING. -/
def watch : State := at_ .watching

/-- The state with a row, an entry, a counter, a slot, a queue of records. -/
def row (n : Fin 8) (r : Row) (s : State) : State := { s with rows := s.rows.set n r }
def entry (n : Fin 16) (e : Entry) (s : State) : State := { s with entries := s.entries.set n e }
def counter (n : Fin 4) (c : Counter) (s : State) : State := { s with counters := s.counters.set n c }
def slot (n : Fin 2) (p : Parked) (s : State) : State := { s with hold := { s.hold with slots := s.hold.slots.set n (some p) } }
def queue (rs : List Record) (s : State) : State := { s with cq := { s.cq with records := rs } }

/-- A record of two words, and a record of twelve. -/
def mark2 : Record := { body := .mark 5#32, timeLost := false, time := 1#20 }
def hit12 : Record :=
  { body := .hit
      { address := 0x200#32, hitSet := 1#16, tag := 1, kind := .write, size := .word, beats := 8, level := 0,
        disposition := .forwarded, late := false, memError := false, holdRefused := false, losslessTimeout := false,
        elapsed := 0, data := List.replicate 8 7#32 }
    timeLost := false, time := 1#20 }

/-- WATCHING with a full queue. -/
def full : State := queue (List.replicate 64 mark2) watch

/-- A one-word write and a two-word read. -/
def writeReq : Request := { kind := .write, address := 0x200#32, beats := 1, size := 2#2, tag := 1, data := [5#32] }
def readReq : Request := { kind := .read, address := 0x208#32, beats := 2, size := 2#2, tag := 2, data := [] }

/-- An entry that hits everything and asks for nothing. -/
def wide : Entry :=
  { Entry.initial with enabled := true, direction := .either, high := 0xFFFFFFFF#32, tags := 0xFF#8, levels := 0xF#4 }

/-- A write row in a state. -/
def wrow (k : RowState) : Row :=
  { Row.empty with
    state := k, kind := .write, address := 0x200#32, size := .word, beats := 1, writeData := [5#32], early := 1#16,
    hits := 1#16 }

/-- A read row in a state. -/
def rrow (k : RowState) : Row :=
  { Row.empty with state := k, kind := .read, address := 0x208#32, size := .word, beats := 2, early := 1#16, hits := 1#16 }

/-- A parked write, tag 1, ticket 1, and a parked read, tag 2, ticket 2. -/
def pwrite : Parked :=
  { tag := 1, ticket := 1#8, parkTime := 90#32, kind := .write, address := 0x200#32, size := .word, beats := 1,
    writeData := [5#32] }
def pread : Parked :=
  { tag := 2, ticket := 2#8, parkTime := 95#32, kind := .read, address := 0x208#32, size := .word, beats := 2,
    writeData := [] }

/-- WATCHING with the write in slot 0 and the read in slot 1. -/
def held : State := slot 1 pread (slot 0 pwrite (row 2 (rrow .parked) (row 1 (wrow .parked) watch)))

/-! ### WellFormed refuses -/

theorem test_request_of_no_beats_is_refused :
    (Instr.request (some { writeReq with beats := 0, data := [] })).wellFormed = false := by decide

theorem test_request_of_nine_beats_is_refused :
    (Instr.request (some { readReq with beats := 9 })).wellFormed = false := by decide

theorem test_read_request_with_data_is_refused :
    (Instr.request (some { readReq with data := [0#32] })).wellFormed = false := by decide

theorem test_write_request_with_data_missing_is_refused :
    (Instr.request (some { writeReq with data := [] })).wellFormed = false := by decide

theorem test_unknown_command_that_names_one_is_refused : (Instr.unknownCommand 0x10#8).wellFormed = false := by decide

theorem test_unknown_item_that_names_one_is_refused : (Instr.getUnknownItem 0x05#8).wellFormed = false := by decide

theorem test_unsupported_item_with_a_put_is_refused : (Instr.putUnsupportedItem 0x1F#8).wellFormed = false := by decide

theorem test_release_with_words_after_nine_is_refused :
    (Instr.release 0#8 1#8 1#8 9#8 [0#32]).wellFormed = false := by decide

theorem test_release_with_a_word_missing_is_refused :
    (Instr.release 0#8 1#8 1#8 2#8 [0#32]).wellFormed = false := by decide

theorem test_well_formed_ones :
    (Instr.request (some writeReq)).wellFormed ∧ (Instr.unknownCommand 0xFF#8).wellFormed ∧
      (Instr.getUnknownItem 0x06#8).wellFormed ∧ (Instr.putUnsupportedItem 0x05#8).wellFormed ∧
      (Instr.release 0#8 1#8 1#8 1#8 [0#32]).wellFormed ∧ (Instr.release 0#8 1#8 1#8 9#8 []).wellFormed := by decide

/-! ### Bytes of frames (TABLE 11.1, TABLE 11.4) -/

theorem test_frames_spell_commands :
    Frame.decode [0x00#8] = some .status ∧ Frame.decode [0x01#8, 0x13#8] = some (.getEntry 3#8) ∧
      Frame.decode [0x02#8, 0x03#8, 0x02#8] = some (.putTimebase #v[2#8]) ∧ Frame.decode [0x10#8] = some .arm ∧
      Frame.decode [0x14#8, 0x02#8] = some (.level 2#8) ∧
      Frame.decode [0x22#8, 0x08#8, 0x00#8, 0x01#8, 0x04#8] = some (.readptr 0x08000104#32) ∧
      Frame.decode [0x30#8, 0#8, 7#8, 1#8, 1#8, 0xDE#8, 0xAD#8, 0xBE#8, 0xEF#8] =
        some (.release 0#8 7#8 1#8 1#8 [0xDEADBEEF#32]) ∧
      Frame.decode [0x30#8, 0#8, 7#8, 1#8, 9#8] = some (.release 0#8 7#8 1#8 9#8 []) ∧
      Frame.decode [0x02#8, 0x05#8] = some (.putUnsupportedItem 0x05#8) ∧
      Frame.decode [0xEE#8] = some (.unknownCommand 0xEE#8) ∧ Frame.decode [0x22#8, 0x08#8] = none := by decide +kernel

/-! ### Hypotheses met: the step, resets and lines -/

/-- Idle steps at both sides of a period's end, and under RESET. -/
theorem witness_IdleStepIsOneClkCycle :
    let s : State := { State.reset with tb := { State.reset.tb with prescale := .div16, phase := 14 } }
    s.pending = [] ∧ s.lines.reset = false ∧ s.tb.phase + 1 < s.tb.prescale.divisor ∧
      State.reset.tb.prescale.divisor ≤ State.reset.tb.phase + 1 ∧
      { s with lines := { s.lines with reset := true } }.lines.reset = true := by decide +kernel

theorem witness_ConfigurationTimeAndLinesAreKept :
    ∃ t, exec .stop watch = .next t ∧ configures .stop = false ∧ movesTime .stop = false ∧ movesLines .stop = false :=
  ⟨_, rfl, rfl, rfl, rfl⟩

/-- Under RESET, with nothing presented. -/
def underReset : State := { State.reset with lines := { State.reset.lines with reset := true } }

theorem witness_ResetHeldAndReleased :
    underReset.lines.reset = true ∧ underReset.rqp.presented = [] ∧ underReset.atRest ∧
      underReset.lines.prst = false ∧ underReset.rqp.acceptance = .idle ∧ underReset.lines.cs = false ∧
      State.reset.lines.reset = false := by
  decide +kernel

/-- One row in each state. -/
def allStates : State :=
  row 0 (wrow .deciding) (row 1 (wrow .queued) (row 2 (rrow .issued) (row 3 (wrow .parked)
    (row 4 (rrow .responding) (row 5 (rrow .orphan) watch)))))

/-- PRST asserted. -/
def underPrst : State := { watch with lines := { watch.lines with prst := true } }

theorem witness_PathResetAndItsEnd :
    allStates.lines.prst = false ∧ allStates.rows[0].state = .deciding ∧ allStates.rows[1].state = .queued ∧
      allStates.rows[2].state = .issued ∧ allStates.rows[3].state = .parked ∧
      allStates.rows[4].state = .responding ∧ allStates.rows[5].state = .orphan ∧
      allStates.rows[7].state = .empty ∧ allStates.sc.session ≠ .stopping ∧ underPrst.lines.prst = true ∧
      underPrst.rqp.presented = [] ∧ underPrst.atRest ∧ underPrst.lines.reset = false ∧
      underPrst.rqp.acceptance = .idle := by decide +kernel

/-- A frame state with CS asserted. -/
def framed (f : FrameState) : State := { watch with mgp := { watch.mgp with frame := f } }

theorem witness_FrameEvents :
    State.reset.lines.cs = false ∧ State.reset.lines.reset = false ∧ underReset.lines.cs = false ∧
      (∀ f ∈ [FrameState.receiving, .answering, .idle], (framed f).lines.cs = true ∧ (framed f).mgp.frame = f) ∧
      (framed .idle).mgp.frame ≠ .receiving ∧ (framed .idle).mgp.frame ≠ .answering ∧
      (framed .receiving).mgp.frame ≠ .idle := by decide +kernel

/-! ### Hypotheses met: the Management Port -/

theorem witness_CommandsAreTakenOnlyWhileReceiving :
    Frame.encode .status ≠ none ∧ State.reset.mgp.frame ≠ .receiving := by decide +kernel

theorem witness_ReadsAnswerTheLayout :
    watch.mgp.frame = .receiving ∧ open0.mgp.frame = .receiving ∧ full.queueFits ∧ full.cq.occupancy = 128 ∧
      (∀ b ∈ [1, 2, 4, 8], ({ pread with beats := b }).beats ∈ [1, 2, 4, 8]) ∧
      ({ Row.empty with writeData := List.replicate 8 0#32 }).writeData.length ≤ 8 ∧
      ring16.watermark < 4294967296 ∧ ({ Counter.initial with pending := some 65536 }).pending = some 65536 ∧
      ({ Counter.initial with source := .cascade 0 }).source = .cascade 0 := by decide +kernel

theorem witness_NamelessCommandsAreRefused :
    watch.mgp.frame = .receiving ∧ namesCommand 0x03#8 = false ∧ namesCommand 0xFF#8 = false ∧
      itemOf 0x06#8 = none ∧ itemOf 0x40#8 = none ∧ itemOf 0x05#8 = some .totals ∧ Item.totals.getOnly = true ∧
      itemOf 0x31#8 = some (.slot 1) ∧ (Item.slot 1).getOnly = true ∧ itemOf 0x3F#8 = some (.inflight 7) ∧
      (Item.inflight 7).getOnly = true ∧ 15 < (16#8).toNat ∧ 15 < (255#8).toNat := by decide +kernel

theorem witness_PutSession :
    (∀ k ∈ [Session.watching, .stopping, .fault, .off, .stopped],
      (at_ k).mgp.frame = .receiving ∧ (at_ k).sc.session = k) ∧
      (let b : Bytes 4 := #v[4#8, 0#8, 0#8, 1#8]; 3 < b[0].toNat) ∧
      (let b : Bytes 4 := #v[3#8, 2#8, 0#8, 1#8]; 1 < b[1].toNat) ∧
      (let b : Bytes 4 := #v[3#8, 1#8, 0#8, 0#8]; b[2] ++ b[3] = 0#16) ∧
      (let b : Bytes 4 := #v[3#8, 1#8, 0#8, 1#8]
       b[0].toNat = (3 : Fin 4).val ∧ b[1].toNat = true.toNat ∧ b[2] ++ b[3] ≠ 0#16) := by decide +kernel

/-- The contents of a PUT RING. -/
def ringPut (base limit mark : Word) (mode : Byte) : Bytes 13 :=
  #v[base.extractLsb' 24 8, base.extractLsb' 16 8, base.extractLsb' 8 8, base.extractLsb' 0 8,
    limit.extractLsb' 24 8, limit.extractLsb' 16 8, limit.extractLsb' 8 8, limit.extractLsb' 0 8, mode,
    mark.extractLsb' 24 8, mark.extractLsb' 16 8, mark.extractLsb' 8 8, mark.extractLsb' 0 8]

/-- The base, limit and watermark that contents spell. -/
def ringRead (b : Bytes 13) : Nat × Nat × Nat :=
  ((wordOfBytes b[0] b[1] b[2] b[3]).toNat, (wordOfBytes b[4] b[5] b[6] b[7]).toNat,
    (wordOfBytes b[9] b[10] b[11] b[12]).toNat)

theorem witness_PutRing :
    (at_ .stopping).sc.session ∈ [Session.watching, .stopping] ∧
      (at_ .fault).sc.session ∈ [Session.off, .stopped, .fault] ∧
      -- each check failing alone
      ringRead (ringPut 0x1010#32 0x1060#32 15#32 0#8) = (0x1010, 0x1060, 15) ∧ 0x1010 % 32 ≠ 0 ∧
      ringRead (ringPut 0x1000#32 0x1050#32 15#32 0#8) = (0x1000, 0x1050, 15) ∧ 0x1050 % 32 ≠ 0 ∧
      ringRead (ringPut 0x1000#32 0x1000#32 15#32 0#8) = (0x1000, 0x1000, 15) ∧
      ringRead (ringPut 0x1000#32 0x1020#32 7#32 0#8) = (0x1000, 0x1020, 7) ∧ 0x1020 - 0x1000 < 64 ∧
      ringRead (ringPut 0#32 0x1000020#32 15#32 0#8) = (0, 0x1000020, 15) ∧ 16777216 < 0x1000020 - 0 ∧
      1 < (ringPut 0x1000#32 0x1040#32 15#32 2#8)[8].toNat ∧
      ringRead (ringPut 0x1000#32 0x1040#32 0#32 0#8) = (0x1000, 0x1040, 0) ∧
      ringRead (ringPut 0x1000#32 0x1040#32 16#32 0#8) = (0x1000, 0x1040, 16) ∧ (0x1040 - 0x1000) / 4 ≤ 16 ∧
      -- the smallest and the largest ring
      ringRead (ringPut 0x1000#32 0x1040#32 15#32 1#8) = (0x1000, 0x1040, 15) ∧ 15 < (0x1040 - 0x1000) / 4 ∧
      (ringPut 0x1000#32 0x1040#32 15#32 1#8)[8].toNat ≤ 1 ∧
      ringRead (ringPut 0#32 0x1000000#32 1#32 0#8) = (0, 0x1000000, 1) ∧ 0x1000000 - 0 ≤ 16777216 := by
  decide +kernel

/-- The two held transactions, of ages 10 and 5, under a limit. -/
def limited (limit : Nat) (fail : Bool) : State :=
  { held with hold := { held.hold with limit := BitVec.ofNat 24 limit, timeoutFail := fail } }

/-- PUT HOLD with a limit that slot 0 (age 10) has not reached. -/
def holdAfter : State := { held with hold := { held.hold with limit := 11#24, timeoutFail := true, holdClass := some 3 } }

theorem witness_PutHoldTimebaseAlertmap :
    (let b : Bytes 5 := #v[0#8, 0#8, 11#8, 2#8, 0#8]; 1 < b[3].toNat) ∧
      (let b : Bytes 5 := #v[0#8, 0#8, 11#8, 1#8, 0x84#8]; b[4].getLsbD 7 = true ∧ 3 < b[4].toNat % 16) ∧
      held.mgp.frame = .receiving ∧ holdConfigOf #v[0#8, 0#8, 11#8, 1#8, 0x83#8] = some (11#24, true, some 3) ∧
      holdAfter.holdDue 0 = false ∧ holdAfter.holdDue 1 = false ∧
      (at_ .stopping).sc.session ∈ [Session.watching, .stopping] ∧
      (at_ .fault).sc.session ∈ [Session.off, .stopped, .fault] ∧ 3 < (#v[4#8] : Bytes 1)[0].toNat ∧
      Prescale.code .div4096 = (#v[3#8] : Bytes 1)[0] ∧
      (let b : Bytes 9 := (Vector.replicate 9 0#8).set 8 0x84#8; b[8].getLsbD 7 = true ∧ 3 < b[8].toNat % 16) ∧
      alertMapOf (Vector.replicate 9 0x83#8) =
        some { holdRefused := some 3, queueUrgent := some 3, lossBegin := some 3, losslessTimeout := some 3,
               ringHigh := some 3, ringDone := some 3, portError := some 3, pathReset := some 3,
               sessionStopped := some 3 } := by decide +kernel

/-- A PUT HOLD by which slot 0 alone reaches its limit, with either disposition, and one by which both do. -/
theorem witness_PutHoldTimebaseAlertmap_timeouts :
    (∀ fail ∈ [true, false],
      holdConfigOf #v[0#8, 0#8, 10#8, yesNo fail, 0#8] = some (10#24, fail, none) ∧
        (limited 10 fail).holdDue 0 = true ∧ (limited 10 fail).holdDue 1 = false) ∧
      holdConfigOf #v[0#8, 0#8, 5#8, 0#8, 0#8] = some (5#24, false, none) ∧ (limited 5 false).holdDue 0 = true ∧
      (limited 5 false).holdDue 1 = true ∧ held.atRest ∧ held.rqp.acceptance = .idle ∧
      held.mpa.port = busyPort.port ∧ held.hold.slots[0] = some pwrite ∧ held.hold.slots[1] = some pread ∧
      pwrite.tag ≠ pread.tag ∧
      (∀ p ∈ [pwrite, pread], held.rows[p.tag].owed = false ∧ held.rows[p.tag].state = .parked) := by
  refine ⟨?_, ?_, ?_, ?_, ?_, ?_, ?_, ?_, ?_, ?_, ?_⟩ <;> decide +kernel

/-- The contents of a PUT ENTRY with one byte changed. -/
def entryPut (k : Fin 28) (v : Byte) : Bytes 28 := (Vector.replicate 28 0#8).set k v

/-- Contents with two bytes changed. -/
def entryPut2 (k : Fin 28) (v : Byte) (j : Fin 28) (w : Byte) : Bytes 28 := (entryPut k v).set j w

theorem witness_PutEntry :
    (entry 3 wide watch).mgp.frame = .receiving ∧ (entry 3 wide watch).entries[3].enabled = true ∧
      watch.entries[3].enabled = false ∧ (at_ .fault).sc.session ∉ [Session.watching, .stopping] ∧
      (let b := entryPut 15 1#8
       (wordOfBytes b[16] b[17] b[18] b[19]).toNat < (wordOfBytes b[12] b[13] b[14] b[15]).toNat) ∧
      2 < (entryPut 1 3#8)[1].toNat ∧ 1 < (entryPut 2 2#8)[2].toNat ∧ 2 < (entryPut 3 3#8)[3].toNat ∧
      2 < (entryPut 4 3#8)[4].toNat ∧ 1 < (entryPut 5 2#8)[5].toNat ∧
      (entryPut 6 0x84#8)[6].getLsbD 7 = true ∧ 3 < (entryPut 6 0x84#8)[6].toNat % 16 ∧
      -- a pattern with a disposition on reads; a lossless entry without CAPTURE; one that is taken
      (∃ e ∈ entryOf (entryPut2 0 0x20#8 4 1#8), e.pattern ≠ none ∧ e.direction ≠ .write ∧ e.dispose ≠ .none) ∧
      (∃ e ∈ entryOf (entryPut 0 0x08#8), e.lossless = true ∧ e.capture = false) ∧
      (∃ e ∈ entryOf (entryPut2 0 0x2F#8 2 1#8),
        ¬(e.pattern ≠ none ∧ e.direction ≠ .write ∧ e.dispose ≠ .none) ∧
          ¬(e.lossless = true ∧ e.capture = false)) := by decide +kernel

/-- The contents of a PUT COUNTER with one byte changed. -/
def counterPut (k : Fin 11) (v : Byte) : Bytes 11 := (Vector.replicate 11 0#8).set k v

theorem witness_PutCounter :
    1 < (counterPut 0 2#8)[0].toNat ∧ 1 < (counterPut 1 2#8)[1].toNat ∧
      ((counterPut 1 1#8)[1] = 1#8 ∧ (0 : Fin 4).val ≤ (counterPut 1 1#8)[2].toNat) ∧
      1 < (counterPut 3 2#8)[3].toNat ∧ 1 < (counterPut 4 2#8)[4].toNat ∧
      ((counterPut 5 0x84#8)[5].getLsbD 7 = true ∧ 3 < (counterPut 5 0x84#8)[5].toNat % 16) ∧
      1 < (counterPut 7 2#8)[7].toNat ∧ 1 < (counterPut 8 2#8)[8].toNat ∧
      -- the constant field 0 stands for 65536
      (∃ c ∈ counterOf 1 (counterPut 1 1#8), c.constant = 65536 ∧ (at_ .off).sc.session ∉ [.watching, .stopping]) ∧
      (∃ c ∈ counterOf 1 (counterPut 10 7#8), watch.sc.session ∈ [.watching, .stopping] ∧
        c.setup = watch.counters[1].setup) ∧
      (∃ c ∈ counterOf 1 (counterPut 0 1#8), c.setup ≠ watch.counters[1].setup) := by decide +kernel

theorem witness_EnableAndDisable : watch.mgp.frame = .receiving := by decide +kernel

theorem witness_ItemsRoundTrip :
    (entryOf (entryPut2 0 0x2F#8 2 1#8)).isSome = true ∧ (counterOf 1 (counterPut 1 1#8)).isSome = true ∧
      State.reset.sc.stallLimit ≠ 0#16 ∧ ring16.described := by decide +kernel

/-! ### Hypotheses met: the session -/

theorem witness_ArmStartsASession :
    watch.sc.session ∈ [Session.watching, .stopping, .fault] ∧
      (let s : State := { open0 with rw := State.reset.rw }
       s.mgp.frame = .receiving ∧ s.sc.session ∈ [Session.off, .stopped] ∧ s.rw.limit.toNat ≤ s.rw.base.toNat) ∧
      open0.mgp.frame = .receiving ∧ open0.sc.session ∈ [Session.off, .stopped] ∧ open0.rw.described ∧
      open0.noGrant = true := by decide +kernel

theorem witness_StopCommand :
    (at_ .stopped).mgp.frame = .receiving ∧ (at_ .stopped).sc.session ≠ .watching ∧ held.mgp.frame = .receiving ∧
      held.sc.session = .watching := by decide +kernel

/-- A STOP with no debt: the STOP record is placed, with nothing parked and with both slots, or waits for room. -/
theorem witness_StopCommand_record :
    (∀ s ∈ [watch, full, held, queue (List.replicate 64 mark2) held],
      s.mgp.frame = .receiving ∧ s.sc.session = .watching ∧ s.atRest ∧ s.pathSound ∧ s.someOwes = false ∧
        s.sc.stopRecord = .notDue ∧ s.rqp.acceptance = .idle ∧ s.mpa.port = busyPort.port ∧ s.rw.ringDone = false ∧
        s.rw.writer ≠ .idle) ∧
      (∀ s ∈ [watch, held], wordsIn (bundle s (.stop s.tb.ticks .command)) ≤ s.cq.room false) ∧
      (∀ s ∈ [full, queue (List.replicate 64 mark2) held],
        s.cq.room false < wordsIn (bundle s (.stop s.tb.ticks .command))) := by
  refine ⟨?_, ?_, ?_⟩ <;> decide +kernel

theorem witness_EnteringStopping :
    (at_ .fault).sc.session ≠ .watching ∧ held.sc.session = .watching ∧ held.pathSound ∧
      held.hold.slots[0] = some pwrite ∧ held.hold.slots[1] = some pread ∧ held.rows[0].state ≠ .parked := by
  decide +kernel

/-- A state with level records on. -/
def recording (s : State) : State := { s with sc := { s.sc with levelRecords := true } }

theorem witness_LevelCommand :
    (at_ .off).sc.session ≠ .watching ∧ watch.mgp.frame = .receiving ∧ watch.sc.session = .watching ∧
      3 < (4#8).toNat ∧ watch.atRest ∧ (0#8).toNat = watch.sc.level.val ∧ (3#8).toNat = (3 : Fin 4).val ∧
      (3 : Fin 4) ≠ watch.sc.level ∧ watch.sc.levelRecords = false ∧ (recording watch).sc.levelRecords = true ∧
      (recording watch).atRest ∧ watch.rw.ringDone = false ∧ watch.rw.writer ≠ .idle ∧
      wordsIn (bundle (recording watch) (.level 0 3 .command 0)) ≤ (recording watch).cq.room false ∧
      (recording full).atRest ∧
      ¬wordsIn (bundle (recording full) (.level 0 3 .command 0)) ≤ (recording full).cq.room false := by
  decide +kernel

/-- A row of every state but DECIDING, both slots taken, and the queue full; the Request Port and row 6 as given. -/
def busyPath (a : Acceptance) (r : Row) : State :=
  let wait : ReadWait := { record := buildHit watch 5 .forwarded false false, status := .okay, since := 90#32 }
  let s := row 0 (rrow .orphan) (row 3 (wrow .queued) (row 4 (rrow .issued)
    (row 5 { rrow .responding with readBuf := [1#32, 2#32], wait := some wait } (row 6 r held))))
  { queue (List.replicate 64 mark2) s with fq := [3], rqp := { s.rqp with acceptance := a } }

/-- A write at the LOSSLESS gate, of tag 6. -/
def gatedPath : State := busyPath (.waitLossless 6 90#32 MatchOutcome.passThrough) (wrow .deciding)

theorem witness_RestartResults :
    (∀ a ∈ [Acceptance.idle, .waitConflict { writeReq with address := 0x21C#32, tag := 6 },
        .waitOrphan { readReq with tag := 0 }],
      (busyPath a Row.empty).mgp.frame = .receiving ∧ (busyPath a Row.empty).pathSound ∧
        (busyPath a Row.empty).rqp.acceptance = a) ∧
      gatedPath.mgp.frame = .receiving ∧ gatedPath.pathSound ∧
      gatedPath.rows.toList.map (·.state) =
        [.orphan, .parked, .parked, .queued, .issued, .responding, .deciding, .empty] := by
  refine ⟨?_, ?_, ?_, ?_⟩ <;> decide +kernel

theorem witness_ClearCommand :
    (at_ .fault).mgp.frame = .receiving ∧ (at_ .fault).sc.session = .fault ∧ watch.sc.session ≠ .fault := by
  decide +kernel

theorem witness_MarkCommand :
    full.mgp.frame = .receiving ∧ full.sc.session = .watching ∧
      full.cq.room false < wordsIn (bundle full (.mark 9#32)) ∧ (at_ .off).sc.session ≠ .watching ∧
      -- exactly the room that is left
      (let s := queue (List.replicate 63 mark2) watch
       wordsIn (bundle s (.mark 9#32)) = s.cq.room false ∧ s.rw.writer ≠ .idle ∧ s.atRest ∧
         s.sc.session = .watching) := by decide +kernel

/-! ### Hypotheses met: records, bundles, causes -/

theorem witness_AdmissionIsWholeOrNothing :
    128 - full.cq.occupancy - full.cq.claim.getD 0 < wordsIn (bundle full (.mark 9#32)) ∧
      (let s := queue (List.replicate 63 mark2) watch
       wordsIn (bundle s (.mark 9#32)) ≤ 128 - s.cq.occupancy) := by decide +kernel

theorem witness_RecordWordsAndBursts :
    hit12.length ≤ 12 ∧ (0xFFFFFFFC#32).toNat % 4 = 0 ∧
      (0xFFFFFFFC#32).toNat + 4 * [7#32].length ≤ 4294967296 ∧ [7#32] ≠ [] ∧
      (∃ h, hit12.body = .hit h ∧ h.beats ∈ [1, 2, 4, 8] ∧ h.data.length ≤ 8 ∧ h.elapsed ≤ 65535) :=
  ⟨by decide, by decide, by decide, by decide, _, rfl, by decide, by decide, by decide⟩

/-- A ring of 16 words with WRITE `w` words in and READ `r` words in. -/
def ringAt (m : RingMode) (w r : Nat) : RingWriter :=
  { ring16 with mode := m, write := BitVec.ofNat 32 (0x1000 + 4 * w), read := BitVec.ofNat 32 (0x1000 + 4 * r) }

/-- The premises of the placement statement, with the used and free space they give. -/
abbrev placed (r : RingWriter) (w used free : Nat) : Prop :=
  r.described ∧ r.holds r.write ∧ r.holds r.read ∧ w = (r.limit.toNat - r.write.toNat) / 4 ∧
    used = (if r.read.toNat ≤ r.write.toNat then (r.write.toNat - r.read.toNat) / 4
            else r.size - (r.read.toNat - r.write.toNat) / 4) ∧ free = r.size - used - 1

theorem witness_PlacementOfTheHeadRecord :
    (placed (ringAt .once 3 0) 13 3 12 ∧ hit12.length < 13) ∧
      (placed (ringAt .once 4 0) 12 4 11 ∧ 12 ≤ hit12.length) ∧
      (placed (ringAt .loop 14 0) 2 14 1 ∧ mark2.length ≤ 2 ∧ 1 < mark2.length) ∧
      (placed (ringAt .loop 14 1) 2 13 2 ∧ mark2.length ≤ 2) ∧
      (placed (ringAt .loop 15 3) 1 12 3 ∧ 1 < mark2.length ∧ 1 + mark2.length ≤ (ringAt .loop 15 3).size - 1 ∧
        1 + mark2.length ≤ 3) ∧
      (placed (ringAt .loop 15 2) 1 13 2 ∧ 2 < 1 + mark2.length) ∧
      (placed (ringAt .loop 12 1) 4 11 4 ∧ 4 < hit12.length ∧ (ringAt .loop 12 1).size - 1 < 4 + hit12.length) ∧
      (placed (ringAt .loop 12 0) 4 12 3 ∧ 3 < 4) := by
  refine ⟨?_, ?_, ?_, ?_, ?_, ?_, ?_, ?_⟩ <;> decide +kernel

/-- The Ring Writer idle at a ring, with records in the queue. -/
def heading (r : RingWriter) (rs : List Record) (s : State) : State := { queue rs s with rw := r }

/-- The head record taken: written, kept from the ring by its free space, and finding it finished, in either session
state and with two slots to release; the states in which none is taken; and a MARK that finds the ring finished. -/
theorem witness_PlacementOfTheHeadRecord_takeHead :
    (∀ k ∈ [Session.watching, .stopping], ∀ r ∈ [ringAt .loop 0 0, ringAt .loop 13 14, ringAt .once 14 0],
      let s := heading r [mark2] (at_ k)
      s.rw.writer = .idle ∧ s.sc.session = k ∧ s.cq.records = mark2 :: [] ∧ s.rw.ringDone = false) ∧
      (∃ p, (ringAt .loop 0 0).choose mark2 = .write p) ∧ (ringAt .loop 13 14).choose mark2 = .waitSpace ∧
      (ringAt .once 14 0).choose mark2 = .finished ∧ (heading (ringAt .once 14 0) [mark2] held).pathSound ∧
      (heading (ringAt .once 14 0) [mark2] held).sc.session = .watching ∧
      watch.rw.writer ≠ .idle ∧ (at_ .off).sc.session ∉ [Session.watching, .stopping] ∧ watch.cq.records = [] ∧
      ({ ring16 with ringDone := true }).ringDone = true ∧
      (let s := heading (ringAt .once 14 0) [] watch
       s.mgp.frame = .receiving ∧ s.atRest ∧ s.sc.session = .watching ∧ s.rqp.acceptance = .idle ∧
         (∀ n : Fin 2, s.hold.slots[n] = none) ∧ (∀ n : Fin 8, s.rows[n].state ≠ .responding) ∧
         s.someOwes = false ∧ s.sc.stopRecord = .notDue ∧ s.rw.ringDone = false ∧ s.rw.writer = .idle ∧
         s.rw.outstanding = none ∧ s.cq.records = [] ∧ s.cq.claim = none ∧
         ∃ h, bundle s (.mark 9#32) = h :: [] ∧ s.rw.choose h = .finished) := by
  refine ⟨?_, ⟨_, rfl⟩, ?_, ?_, ?_, ?_, ?_, ?_, ?_, ?_,
    ⟨?_, ?_, ?_, ?_, ?_, ?_, ?_, ?_, ?_, ?_, ?_, ?_, ?_, _, rfl, ?_⟩⟩ <;> decide +kernel

/-- Four causes. -/
def causes4 : List Cause :=
  [{ kind := .entryHit, index := 0, count := 255 }, { kind := .entryHit, index := 1, count := 1 },
    { kind := .parked, index := 0, count := 1 }, { kind := .expiry, index := 3, count := 254 }]

/-- Class 1 with four causes and overflow, class 3 in service. -/
def alerted : State :=
  (watch.withClass 1 { causes := causes4, overflow := true, inService := false }).withClass 3
    { causes := [], overflow := false, inService := true }

theorem witness_RaisingACause :
    alerted.alertsSound ∧
      alerted.au.classes[1].causes = [] ++ { kind := .entryHit, index := 0, count := 255 } :: causes4.tail ∧
      (∀ x ∈ watch.au.classes[1].causes, x.kind ≠ .portError ∨ x.index ≠ 7) ∧
      watch.au.classes[1].causes.length < 4 ∧
      (∀ x ∈ alerted.au.classes[1].causes, x.kind ≠ .portError ∨ x.index ≠ 7) ∧
      4 ≤ alerted.au.classes[1].causes.length := by decide +kernel

theorem witness_AlertAckAndDone :
    watch.mgp.frame = .receiving ∧ watch.au.alert = false ∧
      alerted.au.classes[1].causes = { kind := .entryHit, index := 0, count := 255 } :: causes4.tail ∧
      (∀ d : Fin 4, d ≤ 1 → alerted.au.classes[d].inService = false) ∧
      (∀ d : Fin 4, d < 1 → alerted.au.classes[d].causes = []) ∧ alerted.au.alert = true ∧
      (∀ c : Fin 4, watch.au.classes[c].inService = false) ∧ alerted.au.classes[3].inService = true ∧
      (∀ d : Fin 4, d < 3 → alerted.au.classes[d].inService = false) := by decide +kernel

/-! ### Hypotheses met: READPTR and RELEASE -/

/-- WATCHING with a ring as given, the port READY. -/
def ringed (r : RingWriter) (k : WriterState) : State := { watch with rw := { r with writer := k } }

theorem witness_ReadptrCommand :
    open0.sc.session = .off ∧ open0.mgp.frame = .receiving ∧ (ringed (ringAt .once 3 0) .idle).rw.mode = .once ∧
      ¬ring16.holds 0x1040#32 ∧ ¬ring16.holds 0x1001#32 ∧ ¬ring16.holds 0xFFC#32 ∧
      (let s := ringed (ringAt .loop 3 0) .idle
       s.mgp.frame = .receiving ∧ s.sc.session ≠ .off ∧ s.rw.mode = .loop ∧ s.rw.described ∧
         s.rw.holds 0x100C#32 ∧ s.rw.holds s.rw.read ∧ s.rw.holds s.rw.write ∧ s.rw.writer ≠ .waitSpace ∧
         s.noGrant = true ∧ (0x100C - 0x1000) / 4 = 3 ∧ s.rw.holds 0x1010#32) ∧
      (ringed (ringAt .loop 3 0) .waitSpace).rw.writer = .waitSpace := by decide +kernel

theorem witness_ReleaseRefusals :
    8 < (9#8).toNat ∧ (8#8).toNat ≤ 8 ∧ (List.replicate 8 0#32).length = (8#8).toNat ∧ 1 < (2#8).toNat ∧
      4 < (5#8).toNat ∧ watch.hold.slots[1] = none ∧ held.hold.slots[1] = some pread ∧
      held.hold.slots[0] = some pwrite ∧ pread.ticket ≠ 1#8 ∧
      (pread.kind = .read ∧ (1#8).toNat ∈ [1, 3]) ∧ (pwrite.kind = .write ∧ (4#8).toNat = 4) ∧
      (¬(pread.kind = .read ∧ (4#8).toNat ∈ [1, 3] ∨ pread.kind = .write ∧ (4#8).toNat = 4) ∧
        (4#8).toNat ∈ [1, 4] ∧ (1#8).toNat ≠ pread.beats) ∧
      ((0#8).toNat ∉ [1, 4] ∧ (1#8).toNat ≠ 0) := by decide +kernel

theorem witness_ReleaseCarriedOut :
    held.mgp.frame = .receiving ∧ held.rqp.acceptance = .idle ∧ held.atRest ∧
      held.mpa.port = .issuing (ringRequest { address := 0x1000#32, words := [0#32] }) ∧
      (∀ p ∈ [pwrite, pread], held.rows[p.tag].owed = false ∧ held.rows[p.tag].kind = p.kind ∧
        held.rows[p.tag].readBuf = [] ∧ held.rows[p.tag].state = .parked) ∧
      held.hold.slots[0] = some pwrite ∧ held.hold.slots[1] = some pread ∧
      [9#32].length = (1#8).toNat ∧ (1#8).toNat = pwrite.beats ∧ [9#32, 8#32].length = (2#8).toNat ∧
      (2#8).toNat = pread.beats := by decide +kernel

/-- The held write owes a record with all its data. -/
def heldOwing : State := row 1 { wrow .parked with owed := true, option := .all } held

/-- The held read owes one too. -/
def bothOwing : State := row 2 { rrow .parked with owed := true, option := .all } heldOwing

/-- The records of a parked read released and of both held transactions timing out, with room and without. -/
theorem witness_ReleasedWriteRecord_readsAndTimeouts :
    (∀ s ∈ [bothOwing, queue (List.replicate 64 mark2) bothOwing], ∀ fail ∈ [true, false],
      let s : State := { s with hold := { s.hold with limit := 5#24, timeoutFail := fail } }
      s.mgp.frame = .receiving ∧ s.rqp.acceptance = .idle ∧ s.sc.session = .watching ∧ s.atRest ∧
        s.rw.ringDone = false ∧ s.rw.writer ≠ .idle ∧ s.mpa.port = busyPort.port ∧ s.hold.limit ≠ 0#24) ∧
      bothOwing.hold.slots[0] = some pwrite ∧ bothOwing.hold.slots[1] = some pread ∧
      (∀ p ∈ [pwrite, pread], bothOwing.rows[p.tag].owed = true ∧ bothOwing.rows[p.tag].state = .parked ∧
        bothOwing.rows[p.tag].readBuf = [] ∧ bothOwing.rows[p.tag].kind = p.kind ∧
        5 ≤ (bothOwing.tb.ticks - p.parkTime).toNat) ∧
      pread.kind = .read ∧ (2#8).toNat = pread.beats ∧ [9#32, 8#32].length = (2#8).toNat ∧
      (queue (List.replicate 64 mark2) bothOwing).cq.room false = 0 := by
  refine ⟨?_, ?_, ?_, ?_, ?_, ?_, ?_, ?_⟩ <;> decide +kernel

theorem witness_ReleasedWriteRecord :
    heldOwing.mgp.frame = .receiving ∧ heldOwing.hold.slots[0] = some pwrite ∧ heldOwing.rows[pwrite.tag].kind = .write ∧
      heldOwing.rows[pwrite.tag].owed = true ∧ heldOwing.rqp.acceptance = .idle ∧ heldOwing.sc.session = .watching ∧
      heldOwing.atRest ∧ heldOwing.rw.ringDone = false ∧ heldOwing.rw.writer ≠ .idle ∧
      (let s := queue (List.replicate 64 mark2) heldOwing; s.atRest ∧ s.cq.room false = 0) := by decide +kernel

/-! ### Hypotheses met: requests -/

/-- A write of tag 3 into the line of the held write. -/
def coveredReq : Request := { writeReq with address := 0x21C#32, tag := 3 }

/-- A burst of two words at BASE, and the placement that it is the last of or has one after it. -/
def burst2 : Burst := { address := 0x1000#32, words := [1#32, 2#32] }
def placing (more : List Burst) : Placement := { wrapAlone := false, bursts := more, newWrite := 0x1008#32 }

/-- The burst outstanding, with the queue's one record being placed. -/
def writing (more : List Burst) (port : PortState) (s : State) : State :=
  { queue [mark2] s with
    rw := { ring16 with writer := .writing, outstanding := some burst2, placement := some (placing more) }
    mpa := { port := port, passOver := 0 } }

/-- The request waits for the line of the held write, with the Ring Writer waiting for space or WRITING. -/
def conflicting (s : State) : State := { s with rqp := { s.rqp with acceptance := .waitConflict coveredReq } }

theorem witness_ReleaseCarriedOut_conflictWait :
    (∀ s ∈ [conflicting (limited 5 false), conflicting (writing [] busyPort.port (limited 5 true))],
      s.rqp.acceptance = .waitConflict coveredReq ∧ s.atRest ∧ s.pathSound ∧ s.lines.reset = false ∧
        s.lines.prst = false ∧ s.rw.writer ≠ .idle ∧ s.mpa.port = busyPort.port) ∧
      ∀ c ∈ [Instr.release 0#8 1#8 0#8 0#8 [], .holdTimeout 0, .stop,
          .memoryResponse { marker := .ring, tag := 0, status := .error, data := [] }],
        ∃ t, exec c { conflicting held with rqp := { (conflicting held).rqp with acceptance := .idle } } = .next t := by
  refine ⟨by decide +kernel, ?_⟩
  intro c h
  simp only [List.mem_cons, List.not_mem_nil, or_false] at h
  rcases h with rfl | rfl | rfl | rfl <;> exact ⟨_, rfl⟩

theorem witness_RequestsNotTaken :
    (∀ k ∈ [RowState.deciding, .queued, .issued, .parked, .responding],
      (row 1 (wrow k) watch).readyFor ∧ (row 1 (wrow k) watch).rows[writeReq.tag].state = k) ∧
      watch.readyFor ∧ watch.rows[writeReq.tag].state = .empty ∧ (row 1 (wrow .orphan) watch).readyFor ∧
      (row 1 (wrow .orphan) watch).rows[writeReq.tag].state = .orphan ∧
      malformed { writeReq with size := 3#2 } = true ∧ malformed writeReq = false ∧ held.readyFor ∧
      held.rows[coveredReq.tag].state = .empty ∧ malformed coveredReq = false ∧
      held.covered coveredReq.address = true ∧ underPrst.mayRead = false ∧
      malformed { readReq with beats := 8, address := 0x220#32 } = false := by decide +kernel

theorem witness_PassThroughRequest :
    (at_ .off).readyFor ∧ (at_ .off).sc.session ≠ .watching ∧ (at_ .off).rows[writeReq.tag] = Row.empty ∧
      malformed writeReq = false ∧ (at_ .off).covered writeReq.address = false ∧
      (at_ .off).mpa.port = .issuing (ringRequest { address := 0x1000#32, words := [0#32] }) ∧ open0.readyFor ∧
      open0.sc.session ≠ .watching ∧ open0.rows[writeReq.tag] = Row.empty ∧ open0.mpa.port = .ready := by
  decide +kernel

theorem witness_DataTestOfABeat (a : Word) (beats : Nat) (size : Size) :
    (0x203#32).toNat % Size.byte.bytes = 0 ∧ (0x202#32).toNat % Size.half.bytes = 0 ∧
      (0x204#32).toNat % Size.word.bytes = 0 ∧
      ∃ enabled : Nat → Prop, ∀ lane, enabled lane ↔
        (beats ≠ 1 ∨ size = .word ∨ (size = .half ∧ lane / 2 = a.toNat % 4 / 2) ∨
          (size = .byte ∧ lane = a.toNat % 4)) :=
  ⟨by decide, by decide, by decide, _, fun _ => Iff.rfl⟩

theorem witness_EarlyMatchCriteria :
    malformed writeReq = false ∧ malformed readReq = false ∧ wide.low.toNat ≤ wide.high.toNat := by decide +kernel

/-- Entry 0 holds, entries 1 and 2 block, entry 3 asks for nothing. -/
def four : Vector Entry 16 :=
  (((Vector.replicate 16 wide).set 0 { wide with dispose := .hold, capture := true, dataOption := .first, stop := true }).set
    1 { wide with dispose := .block, blockStatus := .error, capture := true, dataOption := .all, lossless := true,
                  alert := some 3, link := some 3, nextLevel := some 2 }).set 2 { wide with dispose := .block }

theorem witness_CombinedOutcome :
    (∃ hit : Fin 16 → Prop, ∀ n, hit n ↔ (7#16).getLsbD n.val = true) ∧
      four[1].dispose = .block ∧ four[0].dispose = .hold ∧ four[3].dispose = .none ∧ four[3].capture = false ∧
      four[0].capture = true ∧ four[1].nextLevel = some 2 ∧ four[0].nextLevel = none ∧ four[0].stop = true ∧
      four[3].stop = false ∧ entriesIn 7#16 = [0, 1, 2] ∧ verdictOf four 7#16 = .block .error ∧
      verdictOf four 9#16 = .hold 0 ∧ verdictOf four 8#16 = .forward ∧ mergedOption four 7#16 .none = .all ∧
      levelOf four 7#16 = some (1, 2) ∧ stopOf four 7#16 = some 0 :=
  ⟨⟨_, fun _ => Iff.rfl⟩, by decide +kernel⟩

/-- WATCHING with an entry 0 that hits everything, with an alert class and a disposition. -/
def disposing (d : Dispose) (status : RespStatus) (s : State) : State :=
  entry 0 { wide with dispose := d, blockStatus := status, alert := some 2 } s

/-- The premises of the statement about requests decided while WATCHING, all but the naming ones. -/
abbrev decidable (r : Request) (s : State) (v : Verdict) : Prop :=
  s.readyFor ∧ s.sc.session = .watching ∧ s.rows[r.tag] = Row.empty ∧ malformed r = false ∧
    s.covered r.address = false ∧ s.mpa.port = busyPort.port ∧
    plainHits s.entries (earlySet s.entries r s.sc.level) ∧
    verdictOf s.entries (earlySet s.entries r s.sc.level) = v

/-- Slot 0 held, slot 1 free. -/
def oneHeld : State := slot 0 pwrite (row 1 (wrow .parked) watch)

/-- A request of tag 3 to another line. -/
def otherReq : Request := { readReq with address := 0x300#32, tag := 3 }

theorem witness_WatchedRequestDecided :
    decidable otherReq (disposing .none .okay watch) .forward ∧
      decidable otherReq (disposing .block .okay watch) (.block .okay) ∧
      decidable otherReq (disposing .block .error watch) (.block .error) ∧
      decidable otherReq (disposing .hold .okay watch) (.hold 0) ∧ watch.hold.slots[0] = none ∧
      decidable otherReq (disposing .hold .okay oneHeld) (.hold 0) ∧ oneHeld.hold.slots[0] ≠ none ∧
      oneHeld.hold.slots[1] = none ∧ decidable otherReq (disposing .hold .okay held) (.hold 0) ∧
      (∀ k : Fin 2, held.hold.slots[k] ≠ none) := by
  refine ⟨?_, ?_, ?_, ?_, ?_, ?_, ?_, ?_, ?_, ?_⟩ <;> decide +kernel

/-- What a request that asks for a level, for notices or for a stop needs, with its verdict. -/
abbrev asking (r : Request) (s : State) (v : Verdict) : Prop :=
  s.readyFor ∧ s.sc.session = .watching ∧ s.rows[r.tag] = Row.empty ∧ malformed r = false ∧
    s.covered r.address = false ∧ s.mpa.port = busyPort.port ∧ s.rw.ringDone = false ∧ s.rw.writer ≠ .idle ∧
    earlySet s.entries r s.sc.level = 1#16 ∧ owesRecord s.entries 1#16 = false ∧ verdictOf s.entries 1#16 = v

/-- WATCHING, a row owing a record, with an entry 0 as given; counter 0 counts its hits and stands at 1. -/
def askedOf (e : Entry) (stop : Bool) : State :=
  counter 0 { Counter.initial with state := .counting, value := 1, stop := stop, alert := some 1 }
    (entry 0 e (row 4 { rrow .issued with owed := true } watch))

theorem witness_WatchedRequestDecided_actions :
    -- a level, the present one or another, with level records off and on
    (∀ v ∈ [(0 : Fin 4), 3], let s := askedOf { wide with nextLevel := some v } false
      asking otherReq s .forward ∧ asking otherReq (recording s) .forward ∧ linksOf s.entries 1#16 = 0#4 ∧
        stopOf s.entries 1#16 = none ∧ levelOf s.entries 1#16 = some (0, v)) ∧
      -- a notice by which counter 0 expires
      (let s := askedOf { wide with link := some 0 } false
       asking otherReq s .forward ∧ levelOf s.entries 1#16 = none ∧ stopOf s.entries 1#16 = none ∧
         (takeEvent { hits := linksOf s.entries 1#16, ticked := false } s.counters).2 = 1#4 ∧
         s.counters[0].nextLevel = none ∧ s.counters[0].stop = false ∧ s.counters[0].record = false) ∧
      -- a stop, of a request forwarded and of one parked
      (∀ d ∈ [(Dispose.none, Verdict.forward), (.hold, .hold 0)],
        let s := askedOf { wide with dispose := d.1, stop := true } false
        asking otherReq s d.2 ∧ linksOf s.entries 1#16 = 0#4 ∧ levelOf s.entries 1#16 = none ∧
          stopOf s.entries 1#16 = some 0 ∧ s.someOwes = true ∧ (∀ n : Fin 2, s.hold.slots[n] = none)) ∧
      -- a HOLD attempt that the stop of counter 0 has put outside WATCHING
      (let s := askedOf { wide with dispose := .hold, link := some 0 } true
       asking otherReq s (.hold 0) ∧ levelOf s.entries 1#16 = none ∧ stopOf s.entries 1#16 = none ∧
         s.someOwes = true ∧ (∀ n : Fin 2, s.hold.slots[n] = none) ∧
         (takeEvent { hits := linksOf s.entries 1#16, ticked := false } s.counters).2 = 1#4 ∧
         s.counters[0].nextLevel = none ∧ s.counters[0].record = false ∧ s.counters[0].stop = true) := by
  refine ⟨?_, ?_, ?_, ?_⟩ <;> decide +kernel

/-- WATCHING with an entry 0 that captures all data of everything. -/
def capturing (s : State) : State := entry 0 { wide with capture := true, dataOption := .all } s

/-- What the captured write needs, but for the room. -/
abbrev capturable (s : State) : Prop :=
  s.readyFor ∧ s.sc.session = .watching ∧ s.rows[writeReq.tag] = Row.empty ∧ malformed writeReq = false ∧
    s.covered writeReq.address = false ∧ s.mpa.port = busyPort.port ∧ writeReq.kind = .write ∧
    s.rw.ringDone = false ∧ s.rw.writer ≠ .idle ∧ linksOf s.entries 1#16 = 0#4 ∧ levelOf s.entries 1#16 = none ∧
    stopOf s.entries 1#16 = none ∧ verdictOf s.entries 1#16 = .forward ∧ owesRecord s.entries 1#16 = true ∧
    earlySet s.entries writeReq s.sc.level = 1#16

/-- The same with a lossless entry. -/
def losslessCapturing (s : State) : State :=
  entry 0 { wide with capture := true, lossless := true, dataOption := .all } s

/-- The same with an entry that blocks. -/
def blockCapturing (status : RespStatus) (s : State) : State :=
  entry 0 { wide with capture := true, dataOption := .all, dispose := .block, blockStatus := status } s

theorem witness_WatchedWriteRecord :
    capturable (capturing watch) ∧ capturable (capturing full) ∧
      wantsLossless (capturing full).entries 1#16 = false ∧
      -- a lossless write at both sides of its claim size, 4 + 1 + 3 words
      (let s := losslessCapturing (queue (List.replicate 60 mark2) watch)
       capturable s ∧ wantsLossless s.entries 1#16 = true ∧ 128 - s.cq.occupancy = 4 + 1 + 3) ∧
      (let s := losslessCapturing (queue (List.replicate 61 mark2) watch)
       capturable s ∧ wantsLossless s.entries 1#16 = true ∧ 128 - s.cq.occupancy < 4 + 1 + 3) := by
  refine ⟨?_, ?_, ?_, ?_, ?_⟩ <;> decide +kernel

theorem witness_WatchedWriteRecord_blocked :
    ∀ r ∈ [writeReq, otherReq], ∀ status ∈ [RespStatus.okay, .error], ∀ s ∈ [watch, full],
      let s := blockCapturing status s
      s.readyFor ∧ s.sc.session = .watching ∧ s.rows[r.tag] = Row.empty ∧ malformed r = false ∧
        s.covered r.address = false ∧ s.mpa.port = busyPort.port ∧ s.rw.ringDone = false ∧ s.rw.writer ≠ .idle ∧
        earlySet s.entries r s.sc.level = 1#16 ∧ linksOf s.entries 1#16 = 0#4 ∧ levelOf s.entries 1#16 = none ∧
        stopOf s.entries 1#16 = none ∧ verdictOf s.entries 1#16 = .block status ∧
        owesRecord s.entries 1#16 = true ∧ wantsLossless s.entries 1#16 = false := by decide +kernel

/-! ### Hypotheses met: responses -/

theorem witness_MemoryResponseDropped :
    (∀ k ∈ [RowState.empty, .deciding, .queued, .parked, .responding],
      (row 2 (rrow k) watch).rows[(2 : Fin 8)].state = k) ∧ watch.rw.outstanding = none := by decide +kernel

/-- A read of two beats and a write at memory, and an orphan. -/
def atMemory : State := row 3 (wrow .orphan) (row 2 (rrow .issued) (row 1 (wrow .issued) watch))

theorem witness_PathResponses :
    atMemory.atRest ∧ atMemory.rqp.acceptance = .idle ∧ atMemory.rows[1].owed = false ∧
      atMemory.rows[2].owed = false ∧ atMemory.rows[3].owed = false ∧ atMemory.rows[3].state = .orphan ∧
      atMemory.rows[1].state = .issued ∧ atMemory.rows[1].kind = .write ∧ atMemory.rows[2].state = .issued ∧
      atMemory.rows[2].kind = .read ∧ atMemory.rows[2].late = 0#16 ∧
      atMemory.rows[2].beats ≤ [1#32, 2#32].length ∧ [1#32].length < atMemory.rows[2].beats := by decide +kernel

/-- A request waits for the orphan of its tag; two orphans. -/
def orphanWait : State :=
  let s := row 3 (wrow .orphan) (row 2 (rrow .orphan) watch)
  { s with rqp := { s.rqp with acceptance := .waitOrphan readReq } }

theorem witness_PathResponses_orphanWait :
    orphanWait.atRest ∧ orphanWait.pathSound ∧ orphanWait.rqp.acceptance = .waitOrphan readReq ∧ readReq.tag = 2 ∧
      (∀ n ∈ [(2 : Fin 8), 3], orphanWait.rows[n].state = .orphan ∧ orphanWait.rows[n].owed = false) ∧
      orphanWait.lines.reset = false ∧ orphanWait.lines.prst = false ∧ orphanWait.rw.writer ≠ .idle ∧
      ({ orphanWait with sc := { orphanWait.sc with session := .fault } }).sc.session ∉
        [Session.watching, .stopping] := by
  refine ⟨?_, ?_, ?_, ?_, ?_, ?_, ?_, ?_, ?_⟩ <;> decide +kernel

/-- A read with a late candidate whose pattern the data meets. -/
def lateRead : State :=
  entry 0 { wide with pattern := some { compare := 5#32, care := 0xFF#32 }, capture := true }
    (row 2 { rrow .issued with late := 1#16, early := 0#16, hits := 0#16, readBuf := [4#32, 0x105#32] } watch)

theorem witness_LateMatchCriteria :
    lateSet lateRead 2 = 1#16 ∧ linksOf lateRead.entries 1#16 = 0#4 ∧ levelOf lateRead.entries 1#16 = none ∧
      stopOf lateRead.entries 1#16 = none := by decide +kernel

/-- The same with an entry that asks for nothing but a cause. -/
def lateAlone : State :=
  entry 0 { wide with pattern := some { compare := 5#32, care := 0xFF#32 }, alert := some 2 } lateRead

theorem witness_LateMatchCriteria_response :
    (∀ s ∈ [lateRead, lateAlone], s.pathSound ∧ s.atRest ∧ s.rqp.acceptance = .idle ∧ s.rows[2].state = .issued ∧
      s.rows[2].kind = .read ∧ s.rows[2].beats ≤ [4#32, 0x105#32].length ∧ lateSet s 2 = 1#16 ∧
      s.rows[2].owed = false ∧ linksOf s.entries 1#16 = 0#4 ∧ levelOf s.entries 1#16 = none ∧
      stopOf s.entries 1#16 = none) ∧
      owesRecord lateAlone.entries 1#16 = false ∧ owesRecord lateRead.entries 1#16 = true ∧
      lateRead.sc.session = .watching ∧ lateRead.rw.ringDone = false ∧ lateRead.rw.writer ≠ .idle ∧
      wordsIn (bundle lateRead (.hit (buildHit lateRead 2 .forwarded false false))) ≤ lateRead.cq.room false := by
  refine ⟨?_, ?_, ?_, ?_, ?_, ?_, ?_⟩ <;> decide +kernel

/-- A late hit of an entry that asks for something; the row's decision has notified counter 3, and counter 0 stands at
1. -/
def lateAsking (e : Entry) : State :=
  counter 0 { Counter.initial with state := .counting, value := 1, alert := some 1 }
    (entry 0 { e with pattern := some { compare := 5#32, care := 0xFF#32 } }
      (row 2 { lateRead.rows[2] with notified := 8#4 } lateRead))

theorem witness_LateMatchCriteria_actions :
    -- a notice by which counter 0 expires, and one that the decision has sent already
    (∀ x ∈ [((0 : Fin 4), 1#4), (3, 0#4)],
      let s := lateAsking { wide with link := some x.1 }
      lateSet s 2 = 1#16 ∧ s.sc.session = .watching ∧ levelOf s.entries 1#16 = none ∧
        stopOf s.entries 1#16 = none ∧ linksOf s.entries 1#16 &&& ~~~s.rows[2].notified = x.2 ∧
        (takeEvent { hits := x.2, ticked := false } s.counters).2 = x.2 ∧ s.counters[0].nextLevel = none ∧
        s.counters[0].stop = false ∧ s.counters[0].record = false) ∧
      -- a level, the present one or another
      (∀ v ∈ [(0 : Fin 4), 3],
        let s := recording (lateAsking { wide with nextLevel := some v })
        lateSet s 2 = 1#16 ∧ linksOf s.entries 1#16 = 0#4 ∧ levelOf s.entries 1#16 = some (0, v) ∧
          stopOf s.entries 1#16 = none ∧ s.sc.session = .watching ∧ s.rw.ringDone = false ∧ s.rw.writer ≠ .idle) ∧
      -- a stop
      (let s := lateAsking { wide with stop := true }
       lateSet s 2 = 1#16 ∧ linksOf s.entries 1#16 = 0#4 ∧ levelOf s.entries 1#16 = none ∧
         stopOf s.entries 1#16 = some 0) := by
  refine ⟨?_, ?_, ?_⟩ <;> decide +kernel

/-- What a read record at its response needs, but for the room. -/
abbrev recordable (s : State) : Prop :=
  s.atRest ∧ s.rqp.acceptance = .idle ∧ s.sc.session = .watching ∧ s.rw.ringDone = false ∧ s.rw.writer ≠ .idle ∧
    s.rows[2].state = .issued ∧ s.rows[2].kind = .read ∧ s.rows[2].owed = true ∧ s.rows[2].late = 0#16 ∧
    s.rows[2].beats ≤ [1#32, 2#32].length

/-- A read at memory that owes a record, lossless or not. -/
def owing (lossless : Bool) (s : State) : State :=
  row 2 { rrow .issued with owed := true, lossless := lossless, option := .all } s

theorem witness_ReadRecordAtResponse :
    recordable (owing true watch) ∧ recordable (owing true full) ∧ recordable (owing false full) ∧
      (owing true full).cq.room false = 0 ∧ (owing true full).rows[2].lossless = true ∧
      (owing true full).rows[2].carry = .forwarded ∧ (owing false full).rows[2].lossless = false := by decide +kernel

/-- The ring finished, the Ring Writer idle. -/
def ended (s : State) : State := { s with rw := { ring16 with ringDone := true } }

/-- What a read's lost record at its response needs. -/
abbrev answerable (s : State) : Prop :=
  s.atRest ∧ s.rqp.acceptance = .idle ∧ s.rows[2].state = .issued ∧ s.rows[2].kind = .read ∧
    s.rows[2].owed = true ∧ s.rows[2].beats ≤ [1#32, 2#32].length

theorem witness_ReadRecordAtResponse_lastDebt :
    (∀ k ∈ [Session.stopped, .fault], answerable (owing true (at_ k)) ∧ (owing true (at_ k)).sc.session = k) ∧
      (let s := ended (row 4 { rrow .issued with owed := true } (owing true (at_ .stopping)))
       answerable s ∧ s.sc.session = .stopping ∧ s.rw.ringDone = true ∧ s.rows[4].owed = true) ∧
      (let s := ended (owing true (at_ .stopping))
       answerable s ∧ (∀ k : Fin 8, k ≠ 2 → s.rows[k].owed = false) ∧ s.sc.stopRecord = .notDue ∧
         s.rw.writer = .idle ∧ s.rw.outstanding = none ∧ s.cq.records = []) ∧
      -- room for the read's record and the STOP record, and for the read's alone
      (∀ x ∈ [(0, true), (60, false)],
        let s := queue (List.replicate x.1 mark2) (owing true (at_ .stopping))
        let h := buildHit (row 2 { s.rows[2] with readBuf := [1#32, 2#32] } s) 2 .forwarded false false
        answerable s ∧ (∀ k : Fin 8, k ≠ 2 → s.rows[k].owed = false) ∧ s.sc.stopRecord = .notDue ∧
          s.rw.ringDone = false ∧ s.rw.writer ≠ .idle ∧ wordsIn (bundle s (.hit h)) ≤ s.cq.room false ∧
          decide (wordsIn (bundle s (.hit h)) + 3 ≤ s.cq.room false) = x.2) := by
  refine ⟨?_, ?_, ?_, ?_⟩ <;> decide +kernel

theorem witness_ResponseDelivery :
    (let r : Response := { status := .okay, tag := 1, data := [] }
     let s : State := { watch with rqp := { watch.rqp with ready := [{ r with tag := 4 }, r] } }
     s.rqp.ready = [{ r with tag := 4 }] ++ r :: [] ∧ [{ r with tag := 4 }].length = 1) ∧
      watch.rqp.ready.length ≤ 0 := by decide +kernel

/-! ### Hypotheses met: the Ring Writer and the Memory Port -/

theorem witness_RingResponses :
    (∀ port ∈ [busyPort.port, .ready],
      let s := writing [burst2] port watch
      s.atRest ∧ s.rw.outstanding = some burst2 ∧ s.rw.writer = .writing ∧
        s.rw.placement = some (placing [burst2]) ∧ (placing [burst2]).bursts = burst2 :: [] ∧ s.mpa.port = port) ∧
      (let s := writing [] .ready watch
       s.atRest ∧ (placing []).bursts = [] ∧ (placing []).wrapAlone = false ∧ s.rw.mode = .loop ∧ s.rw.described ∧
         s.rw.holds s.rw.read ∧ s.rw.holds (placing []).newWrite ∧ s.cq.records = [mark2] ∧ s.sc.session = .watching ∧
         s.rqp.acceptance = .idle ∧ (∀ n : Fin 2, s.hold.slots[n] = none) ∧
         (∀ n : Fin 8, s.rows[n].state ≠ .responding)) ∧
      (let s : State := writing [] .ready (at_ .stopping)
       let s : State := { s with sc := { s.sc with stopRecord := .placed } }
       s.atRest ∧ s.sc.session = .stopping ∧ s.sc.stopRecord = .placed ∧ s.someOwes = false) ∧
      (let s : State := { at_ .off with
         rw := { ring16 with writer := .abandoning, outstanding := some burst2 } }
       s.atRest ∧ s.rw.writer = .abandoning ∧ s.sc.session = .off ∧ s.rw.outstanding = some burst2) := by
  refine ⟨?_, ?_, ?_, ?_⟩ <;> decide +kernel

/-- A write at the LOSSLESS gate since tick 90, that records all its data. -/
def gated (s : State) : State :=
  { row 1 { wrow .deciding with owed := true, lossless := true, option := .all } s with
    rqp := { s.rqp with acceptance := .waitLossless 1 90#32 { MatchOutcome.passThrough with early := 1#16 } }
    sc := { s.sc with stallLimit := 10#16 } }

/-- STOPPING with the STOP record DUE. -/
def stopWaits (rs : List Record) : State :=
  { queue rs (at_ .stopping) with sc := { (at_ .stopping).sc with stopRecord := .due } }

/-- The last burst of a placement outstanding, WATCHING, the port busy. -/
def publishing (m : RingMode) (p : Placement) (read : Nat) (rs : List Record) : State :=
  { queue rs watch with
    rw := { ringAt m 0 read with writer := .writing, outstanding := some burst2, placement := some p } }

/-- The ring after the publication. -/
def publishedRing (s : State) (p : Placement) (used : Nat) : RingWriter :=
  { s.rw with
    outstanding := none, write := p.newWrite, written := 0, writer := .idle, placement := none,
    armed := s.rw.armed && decide (used < s.rw.watermark) }

/-- A burst that RESTART has abandoned. -/
def abandoned (r : RingWriter) (s : State) : State :=
  { s with rw := { r with writer := .abandoning, outstanding := some burst2 } }

/-- Publication in both modes, of a record and of a WRAP alone, with an empty queue behind it, a head record that is
written and one that waits for space. -/
theorem witness_RingResponses_publication :
    (∀ m ∈ [RingMode.once, .loop], ∀ alone ∈ [true, false], ∀ rs ∈ [[], [mark2], [mark2, mark2]],
      let p : Placement := { placing [] with wrapAlone := alone }
      let s := publishing m p 0 rs
      s.atRest ∧ s.rw.outstanding = some burst2 ∧ s.mpa.port = busyPort.port ∧ s.rw.writer = .writing ∧
        s.rw.placement = some p ∧ p.bursts = [] ∧ s.sc.session = .watching ∧ s.rw.ringDone = false ∧
        s.rw.described ∧ s.rw.holds s.rw.read ∧ s.rw.holds p.newWrite) ∧
      (∃ p, (publishedRing (publishing .loop (placing []) 0 [mark2, mark2]) (placing []) 2).choose mark2 = .write p) ∧
      (publishing .loop (placing []) 3 [mark2, mark2]).atRest ∧
      (publishedRing (publishing .loop (placing []) 3 [mark2, mark2]) (placing []) 15).choose mark2 = .waitSpace := by
  refine ⟨?_, ⟨_, rfl⟩, ?_, ?_⟩ <;> decide +kernel

/-- Publication in STOPPING: with a record behind; as its last event; with the STOP record still to be placed. -/
theorem witness_RingResponses_publicationInStopping :
    ∀ m ∈ [RingMode.once, .loop], ∀ k ∈ [StopRecord.placed, .due], ∀ n ∈ [1, 62],
      let s := publishing m (placing []) 0 (List.replicate (n + 1) mark2)
      let s : State := { s with sc := { s.sc with session := .stopping, stopRecord := k } }
      s.atRest ∧ s.rw.outstanding = some burst2 ∧ s.mpa.port = busyPort.port ∧ s.rw.writer = .writing ∧
        s.rw.placement = some (placing []) ∧ s.sc.session ∈ [Session.watching, .stopping] ∧ s.rw.ringDone = false ∧
        s.rw.described ∧ s.rw.holds s.rw.read ∧ s.rw.holds (placing []).newWrite ∧
        s.cq.records.tail = List.replicate n mark2 ∧ s.someOwes = false ∧
        (let t := queue [mark2] s; t.atRest ∧ t.cq.records.tail = []) := by decide +kernel

/-- FAULT with slots parked and a row RESPONDING, and with a write at the LOSSLESS gate. -/
theorem witness_RingResponses_fault :
    (let s := writing [] busyPort.port (busyPath .idle Row.empty)
     let s := queue (List.replicate 64 mark2) s
     s.atRest ∧ s.rw.outstanding = some burst2 ∧ s.mpa.port = busyPort.port ∧ s.rw.writer = .writing ∧
       s.sc.session ∈ [Session.watching, .stopping] ∧ s.pathSound ∧ s.rqp.acceptance = .idle ∧
       s.rows[1].state = .parked ∧ s.rows[5].state = .responding) ∧
      (let s := queue (List.replicate 64 mark2) (writing [] busyPort.port (gated watch))
       s.atRest ∧ s.rw.outstanding = some burst2 ∧ s.mpa.port = busyPort.port ∧ s.rw.writer = .writing ∧
         s.sc.session ∈ [Session.watching, .stopping] ∧
         s.rqp.acceptance = .waitLossless 1 90#32 { MatchOutcome.passThrough with early := 1#16 } ∧
         MatchOutcome.passThrough.verdict = .forward ∧ (∀ n : Fin 2, s.hold.slots[n] = none) ∧
         (∀ n : Fin 8, s.rows[n].state ≠ .responding)) := by
  refine ⟨?_, ?_⟩ <;> decide +kernel

/-- The end of an abandoned burst in every session state. -/
theorem witness_RingResponses_abandoned :
    (∀ k ∈ [Session.off, .stopped, .fault, .watching],
      (abandoned ring16 (at_ k)).atRest ∧ (abandoned ring16 (at_ k)).sc.session = k ∧
        (abandoned ring16 (at_ k)).cq.records = [] ∧ (abandoned ring16 (at_ k)).mpa.port = busyPort.port) ∧
      (∀ r ∈ [ring16, ringAt .loop 13 14], ∀ s ∈ [full, stopWaits (List.replicate 64 mark2)],
        (abandoned r s).atRest ∧ (abandoned r s).rw.writer = .abandoning ∧
          (abandoned r s).sc.session ∈ [Session.watching, .stopping] ∧ (abandoned r s).rw.ringDone = false ∧
          (abandoned r s).cq.records = mark2 :: List.replicate 63 mark2) ∧
      (∃ p, (abandoned ring16 full).rw.choose mark2 = .write p) ∧
      (abandoned (ringAt .loop 13 14) full).rw.choose mark2 = .waitSpace := by
  refine ⟨?_, ?_, ⟨_, rfl⟩, ?_⟩ <;> decide +kernel

/-- The port busy, a tag in the Forward Queue or none, and a ring burst requested or none. -/
def contended (fq : List (Fin 8)) (bursts : List Burst) (rs : List Record) (passOver : Nat) : State :=
  { queue rs watch with
    fq := fq
    rw := { ring16 with
      writer := if bursts = [] then .idle else .writing
      placement := if bursts = [] then none else some (placing bursts) }
    mpa := { busyPort with passOver := passOver } }

theorem witness_PortReturnAndGrant :
    open0.mpa.port = .ready ∧ (contended [] [] [] 0).mpa.port = busyPort.port ∧ (contended [] [] [] 0).fq = [] ∧
      (contended [1] [] [] 16).fq = 1 :: [] ∧ (contended [1] [] [] 16).rw.writer ≠ .writing ∧
      (contended [1] [burst2] [mark2] 15).rw.outstanding = none ∧
      (contended [1] [burst2] [mark2] 15).rw.placement = some (placing [burst2]) ∧
      (contended [1] [burst2] [mark2] 15).cq.occupancy < 96 ∧ (contended [1] [burst2] [mark2] 15).mpa.passOver < 16 ∧
      16 ≤ (contended [1] [burst2] [mark2] 16).mpa.passOver ∧
      96 ≤ (contended [1] [burst2] (List.replicate 48 mark2) 0).cq.occupancy ∧
      (contended [] [burst2] [mark2] 0).rw.writer = .writing := by decide +kernel

/-! ### Hypotheses met: waits, limits, the tick -/

/-- A read that waits in RESPONDING since tick 90. -/
def waitingRead (s : State) : State :=
  { row 2 { rrow .responding with
      owed := true, lossless := true, readBuf := [1#32, 2#32]
      wait := some { record := buildHit watch 2 .forwarded false false, status := .okay, since := 90#32 } } s with
    sc := { s.sc with stallLimit := 10#16 } }

theorem witness_LosslessWaits :
    (gated watch).atRest ∧ (gated watch).rw.ringDone = false ∧ (gated watch).rw.writer ≠ .idle ∧
      (gated watch).rows[1].kind = .write ∧ (gated watch).rows[1].owed = true ∧ (gated watch).cq.claim = none ∧
      (gated watch).mpa.port = busyPort.port ∧ 4 + 1 + 3 ≤ (gated watch).cq.room false ∧ (gated full).atRest ∧
      (gated full).cq.room false < 4 + 1 + 3 ∧
      (waitingRead watch).atRest ∧ (waitingRead watch).rows[2].state = .responding ∧
      (waitingRead watch).rows[2].kind = .read ∧
      wordsIn (bundle (waitingRead watch) (.hit (buildHit watch 2 .forwarded false false))) ≤
        (waitingRead watch).cq.room false ∧
      (waitingRead full).atRest ∧ (waitingRead full).cq.room false = 0 ∧
      (stopWaits []).atRest ∧ (stopWaits []).sc.stopRecord = .due ∧
      wordsIn (bundle (stopWaits []) (.stop 100#32 .none)) ≤ (stopWaits []).cq.room false ∧
      (stopWaits (List.replicate 64 mark2)).atRest ∧ (stopWaits (List.replicate 64 mark2)).cq.room false = 0 ∧
      watch.sc.session ≠ .stopping ∧ watch.rows[2].state ≠ .responding ∧ watch.rqp.acceptance = .idle := by
  decide +kernel

theorem witness_StallTimeout :
    (waitingRead full).atRest ∧ (waitingRead full).sc.session = .watching ∧
      (waitingRead full).rows[2].state = .responding ∧ (waitingRead full).sc.stallLimit.toNat ≤ (100#32 - 90#32).toNat ∧
      (gated full).atRest ∧ (gated full).rows[1].state = .deciding ∧ (gated full).rows[1].kind = .write ∧
      (gated full).cq.claim = none ∧ (gated full).mpa.port = busyPort.port ∧
      (gated full).sc.stallLimit.toNat ≤ (100#32 - 90#32).toNat ∧
      (let s := gated full
       let t : State := { s with sc := { s.sc with stallLimit := 11#16 } }
       t.atRest ∧ (100#32 - 90#32).toNat < t.sc.stallLimit.toNat) ∧
      watch.rows[2].state ≠ .responding ∧ watch.rqp.acceptance = .idle := by decide +kernel

theorem witness_HoldTimeout :
    watch.hold.slots[0] = none ∧ (limited 0 false).hold.limit = 0#24 ∧
      ((limited 11 false).tb.ticks - pwrite.parkTime).toNat < (limited 11 false).hold.limit.toNat ∧
      (∀ fail ∈ [true, false],
        let s := limited 10 fail
        s.atRest ∧ s.rqp.acceptance = .idle ∧ s.mpa.port = busyPort.port ∧ s.hold.slots[0] = some pwrite ∧
          s.hold.limit ≠ 0#24 ∧ s.hold.limit.toNat ≤ (s.tb.ticks - pwrite.parkTime).toNat ∧
          s.rows[pwrite.tag].owed = false ∧ s.rows[pwrite.tag].state = .parked ∧ s.hold.timeoutFail = fail) := by
  decide +kernel

/-- A TIME counter that counts, at a value. -/
def timeCounter (v : Nat) : Counter := { Counter.initial with mode := .time, state := .counting, value := v, constant := 9 }

theorem witness_TickCountsUp :
    (counter 0 (timeCounter 2) watch).lines.reset = false ∧ (counter 0 (timeCounter 2) watch).nothingDue ∧
      (counter 0 (timeCounter 1) watch).nothingDue ∧ (counter 0 (timeCounter 1) watch).sc.session = .watching ∧
      (at_ .stopped).nothingDue := by decide +kernel

/-- Counter 0 expires at the tick, and counter 1 counts its expiries. -/
def expiring : State :=
  counter 1 { Counter.initial with state := .counting, source := .cascade 0, value := 2 }
    (counter 0 { timeCounter 1 with tickPending := true, alert := some 1 } watch)

theorem witness_CounterExpiry :
    (∀ n : Fin 4, expiring.counters[n].sourceBelow n = true) ∧ expiring.counters[0].state = .counting ∧
      expiring.counters[0].mode = .time ∧ expiring.counters[0].tickPending = true ∧
      expiring.sc.session = .watching ∧ expiring.atRest ∧
      (takeEvent { hits := 0#4, ticked := true } expiring.counters).2 = 1#4 ∧
      expiring.counters[0].nextLevel = none ∧ expiring.counters[0].stop = false ∧
      expiring.counters[0].record = false ∧ (∀ n : Fin 4, watch.counters[n].tickPending = false) ∧
      (let c : Counter := { timeCounter 2 with start := .onHit, state := .waitStart }
       c.mode = .time ∧ c.start = .onHit ∧ c.state = .waitStart) := by decide +kernel

/-- The reference time 2^31 ticks old. -/
def aged (s : State) : State := { s with rbl := { s.rbl with refTime := 0x80000064#32 } }

theorem witness_AutonomousGap :
    watch.tb.ticks - watch.rbl.refTime ≠ 0x80000000#32 ∧ (at_ .off).sc.session ∉ [Session.watching, .stopping] ∧
      (aged watch).sc.session = .watching ∧ (aged watch).rbl.timeLost = false ∧
      (aged watch).tb.ticks - (aged watch).rbl.refTime = 0x80000000#32 ∧ (aged watch).rw.ringDone = false ∧
      (aged watch).rw.writer ≠ .idle ∧ (aged watch).atRest ∧ 1 ≤ (aged watch).cq.room false ∧ (aged full).atRest ∧
      (aged full).cq.room false = 0 ∧
      -- STOPPING with the STOP record DUE, for which there is no room, with one word left and with none; and NOTDUE
      (∀ rs ∈ [List.replicate 63 mark2 ++ [{ body := .gap, timeLost := false, time := 1#20 }],
          List.replicate 64 mark2],
        let s := aged (stopWaits rs)
        s.atRest ∧ s.sc.session = .stopping ∧ s.sc.stopRecord = .due ∧ s.rbl.timeLost = false ∧
          s.tb.ticks - s.rbl.refTime = 0x80000000#32 ∧ s.rw.ringDone = false ∧ s.rw.writer ≠ .idle ∧
          s.cq.room false = 128 - wordsIn rs) ∧
      (let s := aged (row 4 { rrow .issued with owed := true } (at_ .stopping))
       s.atRest ∧ s.sc.stopRecord = .notDue ∧ s.rbl.timeLost = false) ∧
      (let s := aged (stopWaits [])
       let t : State := { s with sc := { s.sc with stopRecord := .placed } }
       t.sc.session = .stopping ∧ t.sc.stopRecord = .placed) := by decide +kernel

/-! ### One step of some commands -/

/-- The state after a command. -/
def after (c : Instr) (s : State) : State :=
  match exec c s with
  | .next t => t
  | _ => s

theorem test_words_spell_no_command (nbits w : Nat) (s : State) :
    decodeTableWord nbits w = none ∧ s.withFetchWord nbits w = s := ⟨rfl, rfl⟩

/-- R47, R111, R142: the START record, two words, goes to the Memory Port at once. -/
theorem test_arm_places_the_start_record :
    (after .arm open0).cq.records.map Record.words = [[0x12000000#32, 100#32]] ∧
      (after .arm open0).mpa.port =
        .issuing (ringRequest { address := 0x1000#32, words := [0x12000000#32, 100#32] }) ∧
      (after .arm open0).mgp = { frame := .answering, byteCount := 1, answer := [0x00#8] } := by decide +kernel

/-- R166: an ARM that no frame brings has no effect. -/
theorem test_arm_outside_a_frame : after .arm State.reset = State.reset := by decide +kernel

/-- 5.10 step 2: "The counter wraps to 0, which is not slot 0's ticket". -/
theorem test_ticket_wraps :
    nextTicket { held.hold with slots := #v[some { pwrite with ticket := 255#8 }, none], ticket := 255#8 } 1 = 0#8 := by
  decide +kernel

/-- R83: a ticket that the other slot holds is passed over. -/
theorem test_ticket_is_passed_over :
    nextTicket { held.hold with slots := #v[some pwrite, none], ticket := 0#8 } 1 = 2#8 := by decide +kernel

/-- 5.10 step 5: memory gets the host's word, the record the master's. -/
theorem test_replace :
    let t := after (.release 0#8 1#8 1#8 1#8 [0xABCD0000#32])
      (row 1 { wrow .parked with owed := true, option := .all } held)
    t.rows[1].writeData = [0xABCD0000#32] ∧ t.fq = [1] ∧ t.hold.slots[0] = none ∧
      t.cq.records.map Record.words =
        [[0x35000064#32, 0x200#32, 0x00013800#32, 0x30100064#32, 5#32]] := by
  decide +kernel

/-- 5.10 step 4: a request to the line of a held write waits, and the one behind it with it. -/
theorem test_conflict_wait :
    (after (.request (some coveredReq)) held).rqp.acceptance = .waitConflict coveredReq ∧
      (after (.request (some otherReq)) (after (.request (some coveredReq)) held)).rqp.presented = [otherReq] := by
  decide +kernel

/-- R80: a blocked read answered OKAY returns words of zeros. -/
theorem test_blocked_read :
    (after (.request (some otherReq)) (disposing .block .okay watch)).rqp.ready =
      [{ status := .okay, tag := 3, data := [0#32, 0#32] }] := by decide +kernel

/-- R14, R15: the data of a read meets the pattern of a candidate, and its record is made late. -/
theorem test_late_hit :
    let t := after (.memoryResponse { marker := .forwarded, tag := 2, status := .okay, data := [4#32, 0x105#32] }) lateRead
    t.totals[0] = 1#32 ∧ t.rows[2] = Row.empty ∧
      t.cq.records.map (fun r => r.words.getD 3 0#32) = [0x08000064#32] := by decide +kernel

/-- R162, TABLE 11.7: class 1 goes into service above class 3, its oldest cause at its full count. -/
theorem test_ack_nests :
    (after .ack alerted).mgp.answer = [0x00#8, 0x81#8, 1#8, 0#8, 255#8] ∧
      (after .ack alerted).au.classes[1].inService = true ∧ (after .ack alerted).au.alert = false := by decide +kernel

/-- R42: the row at memory turns ORPHAN, the others are freed. -/
theorem test_path_reset :
    (after .pathReset allStates).rows.toList.map (·.state) =
      [.empty, .empty, .orphan, .empty, .empty, .orphan, .empty, .empty] := by decide +kernel

/-- R41, assumption 31: RESTART strips the rows, an ORPHAN one too, and answers the RESPONDING one. -/
theorem test_restart_of_a_busy_path :
    (after .restart gatedPath).rows.toList.map (·.state) =
      [.orphan, .queued, .queued, .queued, .issued, .empty, .queued, .empty] ∧
    (after .restart gatedPath).rows.toList.map (·.hits) = [0#16, 0#16, 0#16, 0#16, 0#16, 0#16, 0#16, 0#16] ∧
    (after .restart gatedPath).fq = [3, 6, 1, 2] ∧
    (after .restart gatedPath).rqp.ready = [{ status := .okay, tag := 5, data := [1#32, 2#32] }] := by decide +kernel

/-- R97: a stop releases slot 0 before slot 1. -/
theorem test_stop_releases_in_order :
    (after .stop held).fq = [1, 2] ∧ (after .stop held).rows[2].carry = .stopForward ∧
      (after .stop held).sc.reason = .command := by decide +kernel

/-- R76, R75: the expiry of counter 0 is counted by counter 1. -/
theorem test_cascade :
    (after .counterExpiry expiring).counters[0].value = 9 ∧ (after .counterExpiry expiring).counters[1].value = 1 ∧
      (after .counterExpiry expiring).au.classes[1].causes = [{ kind := .expiry, index := 0, count := 1 }] := by
  decide +kernel

/-! ### Hypotheses met: invariants and frames -/

/-- An armed session, its START record at the Memory Port, and the held transactions with a STOP in the queue. -/
theorem witness_QueueInvariant_UnitsInvariant_PathInvariant_RingInvariant :
    (after .arm open0).sound ∧ (∃ t, step (after .arm open0) = .next t) ∧ held.sound ∧
      (∃ t, step { held with pending := [.stop] } = .next t) := by
  refine ⟨?_, ⟨_, rfl⟩, ?_, ⟨_, rfl⟩⟩ <;> refine ⟨⟨?_, ?_⟩, ⟨?_, ?_, ?_, ?_, ?_⟩, ⟨?_, ?_⟩, ?_⟩ <;> decide +kernel

theorem witness_FrameRoundTrip :
    Frame.encode (.mark 0xDEADBEEF#32) = some [0x23#8, 0xDE#8, 0xAD#8, 0xBE#8, 0xEF#8] ∧
      4 < [0x23#8, 0xDE#8, 0xAD#8, 0xBE#8, 0xEF#8].length := by decide +kernel

end Sys2Proof.Tests
end

section
/-! Facts about the watch entries as the host writes them (R3 to R6): ENABLE, DISABLE and PUT ENTRY, and the obligations
O17 and O15. -/

namespace Sys2Proof.Machine

variable {s : State}

/-! ### What the Management Port does with a PUT, ENABLE or DISABLE of an entry -/

theorem exec_enable (n : Byte) (s : State) : exec (.enable n) s = .next (takeCommand 1 (setEnabled n true) s) := rfl

theorem exec_disable (n : Byte) (s : State) : exec (.disable n) s = .next (takeCommand 1 (setEnabled n false) s) := rfl

theorem exec_putEntry (n : Fin 16) (b : Bytes 28) (s : State) :
    exec (.putEntry n b) s = .next (takeCommand 29 (putEntry n b) s) := rfl

/-- Argument bytes 0 to 15 name the entry of that number (R6). -/
theorem entryNumber_ofNat (n : Fin 16) : entryNumber (BitVec.ofNat 8 n.val) = some n := by
  have hn : (BitVec.ofNat 8 n.val).toNat = n.val := by
    rw [BitVec.toNat_ofNat, Nat.mod_eq_of_lt]
    omega
  simp [entryNumber, hn]

theorem setEnabled_ofNat (n : Fin 16) (on : Bool) :
    setEnabled (BitVec.ofNat 8 n.val) on s =
      ({ s with entries := s.entries.set n { s.entries[n] with enabled := on } }, [0x00#8]) := by
  rw [setEnabled, entryNumber_ofNat]
  rfl

/-! ### The session states in which entries are locked (R3) -/

theorem Session.records_iff (k : Session) : k.records = true ↔ k ∈ [Session.watching, .stopping] := by
  cases k <;> decide

theorem Session.records_eq_false_iff (k : Session) : k.records = false ↔ k ∉ [Session.watching, .stopping] := by
  rw [← Session.records_iff, Bool.not_eq_true]

/-! ### The fields of a PUT ENTRY that lie outside their range (R4, TABLE 11.13) -/

/-- A field of two codes holds 0 or 1. -/
theorem toNat_le_one_of_code {α : Type} {b : Byte} {x y o : α}
    (h : (if b = 0#8 then some x else if b = 1#8 then some y else none) = some o) : b.toNat ≤ 1 := by
  split at h
  · simp_all
  split at h <;> simp_all

/-- A field of three codes holds 0, 1 or 2. -/
theorem toNat_le_two_of_code {α : Type} {b : Byte} {x y z o : α}
    (h : (if b = 0#8 then some x else if b = 1#8 then some y else if b = 2#8 then some z else none) = some o) :
    b.toNat ≤ 2 := by
  split at h
  · simp_all
  split at h
  · simp_all
  split at h <;> simp_all

/-- An optional field that is marked present holds a value 0-3 (R171). -/
theorem toNat_le_of_optionalOf {b : Byte} {o : Option (Fin 4)} (h : optionalOf b = some o) (hb : b.getLsbD 7 = true) :
    b.toNat % 16 ≤ 3 := by
  simp only [optionalOf, hb, if_true, Option.map_eq_some_iff, fin4Of] at h
  obtain ⟨v, hv, -⟩ := h
  split at hv
  · omega
  · cases hv

/-- A PUT ENTRY whose contents spell an entry has every field in range (R4). -/
theorem inRange_of_entryOf {b : Bytes 28} {e : Entry} (h : entryOf b = some e) :
    (wordOfBytes b[12] b[13] b[14] b[15]).toNat ≤ (wordOfBytes b[16] b[17] b[18] b[19]).toNat ∧ b[1].toNat ≤ 2 ∧
      b[2].toNat ≤ 1 ∧ b[3].toNat ≤ 2 ∧ b[4].toNat ≤ 2 ∧ b[5].toNat ≤ 1 ∧
      ∀ k : Fin 28, k.val ∈ [6, 7, 8] → b[k].getLsbD 7 = true → b[k].toNat % 16 ≤ 3 := by
  simp only [entryOf, Option.bind_eq_some_iff] at h
  obtain ⟨direction, h1, capture, h2, dataOption, h3, dispose, h4, blockStatus, h5, alert, h6, link, h7, nextLevel, h8,
    h⟩ := h
  have hw : ¬ (wordOfBytes b[16] b[17] b[18] b[19]).toNat < (wordOfBytes b[12] b[13] b[14] b[15]).toNat := by
    intro hlt
    rw [if_pos hlt] at h
    cases h
  refine ⟨Nat.le_of_not_lt hw, toNat_le_two_of_code h1, toNat_le_one_of_code h2, toNat_le_two_of_code h3,
    toNat_le_two_of_code h4, toNat_le_one_of_code h5, ?_⟩
  rintro ⟨k, hk⟩ hmem hb
  simp only [List.mem_cons, List.not_mem_nil, or_false] at hmem
  obtain rfl | rfl | rfl := hmem
  · exact toNat_le_of_optionalOf h6 hb
  · exact toNat_le_of_optionalOf h7 hb
  · exact toNat_le_of_optionalOf h8 hb

/-- The combinations of R5. -/
theorem Entry.illegal_iff (e : Entry) :
    e.illegal = true ↔
      (e.pattern ≠ none ∧ e.direction ≠ .write ∧ e.dispose ≠ .none) ∨ (e.lossless = true ∧ e.capture = false) := by
  simp [Entry.illegal, Option.isSome_iff_ne_none, and_assoc]

/-! ### The cases of PUT ENTRY, in the order of its checks -/

/-- PUT ENTRY may write entry `n`: no session makes records, or the entry is disabled (R3). -/
def State.unlocked (s : State) (n : Fin 16) : Prop :=
  s.sc.session ∉ [.watching, .stopping] ∨ s.entries[n].enabled = false

theorem locked_eq_false_of_unlocked {n : Fin 16} (h : s.unlocked n) :
    (s.sc.session.records && s.entries[n].enabled) = false := by
  obtain hs | he := h
  · rw [(Session.records_eq_false_iff _).2 hs, Bool.false_and]
  · rw [he, Bool.and_false]

theorem putEntry_of_locked {n : Fin 16} {b : Bytes 28} (hs : s.sc.session ∈ [.watching, .stopping])
    (he : s.entries[n].enabled = true) : putEntry n b s = (s, [0x01#8]) := by
  rw [putEntry, if_pos (by rw [(Session.records_iff _).2 hs, he]; rfl)]
  rfl

theorem putEntry_of_badarg {n : Fin 16} {b : Bytes 28} (hu : s.unlocked n) (hb : entryOf b = none) :
    putEntry n b s = (s, [0x03#8]) := by
  rw [putEntry, locked_eq_false_of_unlocked hu, hb]
  rfl

theorem putEntry_of_illegal {n : Fin 16} {b : Bytes 28} {e : Entry} (hu : s.unlocked n) (hb : entryOf b = some e)
    (he : e.illegal = true) : putEntry n b s = (s, [0x04#8]) := by
  simp only [putEntry, locked_eq_false_of_unlocked hu, hb, he]
  rfl

theorem putEntry_of_legal {n : Fin 16} {b : Bytes 28} {e : Entry} (hu : s.unlocked n) (hb : entryOf b = some e)
    (he : e.illegal = false) : putEntry n b s = (writeEntry n e s, [0x00#8]) := by
  simp only [putEntry, locked_eq_false_of_unlocked hu, hb, he]
  rfl

end Sys2Proof.Machine

namespace Sys2Proof.Proofs.WatchEntries

open Sys2Proof.Machine

/-- Settles O17: a number 0-15 names its entry, and the command sets that entry's enable. -/
theorem enableAndDisable : Obligations.EnableAndDisable := by
  intro n s hf
  constructor
  · rw [exec_enable, takeCommand_of_receiving hf, setEnabled_ofNat]
  · rw [exec_disable, takeCommand_of_receiving hf, setEnabled_ofNat]

/-- Settles O15, one check after the other. -/
theorem putEntry : Obligations.PutEntry := by
  intro n b s hf
  simp only [exec_putEntry, takeCommand_of_receiving hf]
  refine ⟨?busy, ?badarg, ?illegal, ?taken⟩
  case busy =>
    intro hs he
    rw [putEntry_of_locked hs he]
  case badarg =>
    intro hu hbad
    have hnone : entryOf b = none := by
      by_contra hsome
      obtain ⟨e, he⟩ := Option.ne_none_iff_exists'.1 hsome
      obtain ⟨hw, h1, h2, h3, h4, h5, hopt⟩ := inRange_of_entryOf he
      obtain h | h | h | h | h | h | ⟨k, hk, hp, h⟩ := hbad
      case inr.inr.inr.inr.inr.inr => exact absurd (hopt k hk hp) (by omega)
      all_goals omega
    rw [putEntry_of_badarg hu hnone]
  case illegal =>
    intro e hu he hill
    rw [putEntry_of_illegal hu he ((Entry.illegal_iff e).2 hill)]
  case taken =>
    intro e hu he hpat hloss
    have hlegal : e.illegal = false := by
      rw [← Bool.not_eq_true, Entry.illegal_iff]
      exact not_or.2 ⟨hpat, hloss⟩
    refine ⟨writeEntry n e s, ?_, rfl, fun k => ?_⟩
    · rw [putEntry_of_legal hu he hlegal]
    · simp [writeEntry]

end Sys2Proof.Proofs.WatchEntries
end

section
/-! What no command touches but the commands that are there to change it: the configuration, the timebase and the lines
(obligation O4). -/

namespace Sys2Proof.Machine

/-! ### The configuration, the timebase and the lines together -/

/-- What O4 speaks of: the configuration, the timebase, the lines. -/
def State.kept (s : State) : Setup × Timebase × Lines := (s.setup, s.tb, s.lines)

variable {s t : State}

theorem kept_iff : t.kept = s.kept ↔ t.setup = s.setup ∧ t.tb = s.tb ∧ t.lines = s.lines := by
  rw [State.kept, State.kept, Prod.mk.injEq, Prod.mk.injEq]

theorem kept_of_fixed (h : t.fixed = s.fixed) : t.kept = s.kept := by
  rw [State.fixed, State.fixed, Fixed.mk.injEq] at h
  obtain ⟨hsetup, htb, hlines, -⟩ := h
  rw [State.kept, hsetup, htb, hlines, State.kept]

theorem kept_answered (s : State) (n : Nat) (bytes : List Byte) : (s.answered n bytes).kept = s.kept := rfl

/-- A command of the Management Port keeps whatever its action keeps, if that is not the port itself. -/
theorem takeCommand_keeps {α : Type} (f : State → α) (hf : ∀ u n bytes, f (u.answered n bytes) = f u) {n : Nat}
    {act : State → State × List Byte} (h : f (act s).1 = f s) : f (takeCommand n act s) = f s := by
  by_cases hr : s.mgp.frame = .receiving
  · rw [takeCommand_of_receiving hr, hf, h]
  · rw [takeCommand_of_not_receiving hr]

theorem takeCommand_kept {n : Nat} {act : State → State × List Byte} (h : (act s).1.kept = s.kept) :
    (takeCommand n act s).kept = s.kept := takeCommand_keeps State.kept kept_answered h

/-! ### Commands of the Management Port that configure nothing -/

theorem moveRead_kept (v : Word) (s : State) : (moveRead v s).kept = s.kept := by
  unfold moveRead
  dsimp only
  split
  · split
    · exact (kept_of_fixed (formPlacement_fixed _)).trans rfl
    · rfl
  · split
    · exact (kept_of_fixed (formPlacement_fixed _)).trans rfl
    · rfl

theorem readptr_kept (v : Word) (s : State) : (readptr v s).1.kept = s.kept := by
  unfold readptr
  split
  · rfl
  split
  · split
    · exact (kept_of_fixed (arbitrate_fixed _)).trans (moveRead_kept v s)
    · rfl
  · rfl

theorem releaseChecked_kept (n : Fin 2) (ticket : Byte) (d : Disposition) (count : Nat) (words : List Word)
    (s : State) : (releaseChecked n ticket d count words s).1.kept = s.kept := by
  unfold releaseChecked
  split
  · rfl
  split
  · rfl
  split
  · rfl
  split
  · rfl
  · exact kept_of_fixed ((finish_fixed _).trans (releaseSlot_fixed _ (makeHit_fixedMake false) _ _ _))

theorem release_kept (slot ticket disposition count : Byte) (words : List Word) (s : State) :
    (release slot ticket disposition count words s).1.kept = s.kept := by
  unfold release
  split
  · rfl
  split
  · exact releaseChecked_kept _ _ _ _ _ s
  · rfl

theorem ack_kept (s : State) : (ack s).1.kept = s.kept := by
  unfold ack
  split
  · rfl
  · split <;> rfl

theorem done_kept (s : State) : (done s).1.kept = s.kept := by
  unfold done
  split <;> rfl

/-- A change of the counters that keeps their configured fields keeps the configuration. -/
theorem mapCounters_kept {f : Counter → Counter} (hf : ∀ c, (f c).setup = c.setup) (s : State) :
    ({ s with counters := mapVec f s.counters } : State).kept = s.kept :=
  kept_of_fixed (counters_fixed s _ fun n => by simp [hf])

theorem armSession_kept (s : State) : (armSession s).kept = s.kept :=
  mapCounters_kept (f := Counter.load) (fun _ => rfl) s

theorem arm_kept (s : State) : (arm s).1.kept = s.kept := by
  unfold arm
  split
  · split
    · exact (kept_of_fixed ((arbitrate_fixed _).trans (takeHead_fixed _))).trans (armSession_kept s)
    · rfl
  · rfl

theorem restartBlocks_kept (s : State) : (restartBlocks s).kept = s.kept :=
  mapCounters_kept (f := Counter.rest) (fun _ => rfl) s

theorem deliverWaiting_fixed (tag : Fin 8) (s : State) : (deliverWaiting tag s).fixed = s.fixed := by
  unfold deliverWaiting
  split
  · exact deliverRow_fixed _ _ _
  · rfl

theorem forwardHeld_fixed (s : State) : (forwardHeld s).fixed = s.fixed := by
  unfold forwardHeld
  split
  · exact decideRequest_fixed _ _ _
  all_goals rfl

theorem restart_kept (s : State) : (restart s).1.kept = s.kept := by
  refine (kept_of_fixed ?_).trans (restartBlocks_kept s)
  unfold restart accept
  dsimp only
  rw [finish_fixed, releaseBoth_fixed _ (makeHit_fixedMake false), forwardHeld_fixed,
    foldl_fixed _ _ (fun t n => deliverWaiting_fixed n t), mapRows_fixed]

theorem stop_kept (s : State) : (stop s).1.kept = s.kept := by
  unfold stop
  split
  · exact kept_of_fixed ((finish_fixed _).trans (stopRequest_fixed _ _))
  · rfl

theorem clear_kept (s : State) : (clear s).1.kept = s.kept := by
  unfold clear
  split <;> rfl

theorem level_kept (v : Byte) (s : State) : (level v s).1.kept = s.kept := by
  unfold level
  split
  · split
    · exact kept_of_fixed ((finish_fixed _).trans (levelRequest_fixed _ _ _ _))
    · rfl
  · rfl

theorem mark_kept (v : Word) (s : State) : (mark v s).1.kept = s.kept := by
  unfold mark
  split
  · split
    · rename_i t h
      exact kept_of_fixed ((finish_fixed _).trans ((takeHead_fixed _).trans (admitBundle_fixed s false _ h)))
    · rfl
  · rfl

/-! ### Every command that neither configures nor moves the time or a line -/

/-- The commands that write what O4 speaks of. -/
def writesKept (c : Instr) : Bool := configures c || movesTime c || movesLines c

/-- Every other command keeps the configuration, the timebase and the lines. -/
theorem exec_kept {c : Instr} (hc : writesKept c = false) (h : exec c s = .next t) : t.kept = s.kept := by
  cases c with
  | tick | pathReset | prstDeasserted | deviceReset | resetRelease | powerOn | truncatedFrame | frameEnd | frameStart
  | csDeassertedAfterReset | putSession | putRing | putHold | putTimebase | putAlertmap | putEntry | putCounter | enable
  | disable => cases hc
  | request r =>
    cases h
    split
    · exact kept_of_fixed ((finish_fixed _).trans (readOldest_fixed _))
    · rfl
  | losslessGatePass => cases h; exact kept_of_fixed (gatePass_fixed _)
  | respondingRecordPlaced tag => cases h; exact kept_of_fixed (placeWaiting_fixed _ _)
  | stopRecordReoffer => cases h; exact kept_of_fixed (reofferStop_fixed _)
  | losslessStallTimeout tag => cases h; exact kept_of_fixed (stallTimeout_fixed _ _)
  | responseDelivery n => cases h; split <;> rfl
  | memoryResponse m =>
    cases h
    split
    · exact kept_of_fixed (forwardedResponse_fixed _ _ _ _)
    · exact kept_of_fixed (ringResponse_fixed _ _)
  | portReturnToReady =>
    cases h
    split
    · exact kept_of_fixed (arbitrate_fixed _)
    · rfl
  | counterExpiry => cases h; exact kept_of_fixed (expireCounters_fixed _)
  | holdTimeout n => cases h; exact kept_of_fixed (holdExpire_fixed _ _)
  | autonomousGap => cases h; exact kept_of_fixed (autonomousGap_fixed _)
  | unknownCommand code =>
    cases h
    split
    · rfl
    · exact takeCommand_kept rfl
  | getEntry n =>
    cases h
    exact takeCommand_kept (by cases entryNumber n <;> rfl)
  | getUnknownItem code =>
    cases h
    split
    · rfl
    · exact takeCommand_kept rfl
  | putUnsupportedItem code =>
    cases h
    split
    · split
      · exact takeCommand_kept rfl
      · rfl
    · exact takeCommand_kept rfl
  | status | getSession | getRing | getHold | getTimebase | getAlertmap | getTotals | getCounter | getSlot
  | getInflight => cases h; exact takeCommand_kept rfl
  | arm => cases h; exact takeCommand_kept (arm_kept s)
  | stop => cases h; exact takeCommand_kept (stop_kept s)
  | restart => cases h; exact takeCommand_kept (restart_kept s)
  | clear => cases h; exact takeCommand_kept (clear_kept s)
  | level v => cases h; exact takeCommand_kept (level_kept v s)
  | readptr v => cases h; exact takeCommand_kept (readptr_kept v s)
  | mark v => cases h; exact takeCommand_kept (mark_kept v s)
  | release slot ticket disposition count words =>
    cases h
    split
    · rfl
    · exact takeCommand_kept (release_kept slot ticket disposition count words s)
  | ack => cases h; exact takeCommand_kept (ack_kept s)
  | done => cases h; exact takeCommand_kept (done_kept s)

/-! ### The commands that configure leave the lines, and all but PUT TIMEBASE the timebase -/

theorem putSession_time_lines (b : Bytes 4) (s : State) :
    (putSession b s).1.tb = s.tb ∧ (putSession b s).1.lines = s.lines := by
  unfold putSession
  split
  · split <;> exact ⟨rfl, rfl⟩
  · exact ⟨rfl, rfl⟩

theorem putRing_time_lines (b : Bytes 13) (s : State) :
    (putRing b s).1.tb = s.tb ∧ (putRing b s).1.lines = s.lines := by
  unfold putRing
  split
  · exact ⟨rfl, rfl⟩
  · split <;> exact ⟨rfl, rfl⟩

/-- The timeouts of a PUT HOLD keep the timebase and the lines. -/
theorem expireBoth_kept (s : State) : (expireBoth s).kept = s.kept := by
  unfold expireBoth
  split
  · dsimp only
    split <;> exact (kept_of_fixed ((holdExpire_fixed _ _).trans (holdExpire_fixed _ _))).trans rfl
  · exact kept_of_fixed ((holdExpire_fixed _ _).trans (holdExpire_fixed _ _))

theorem putHold_time_lines (b : Bytes 5) (s : State) :
    (putHold b s).1.tb = s.tb ∧ (putHold b s).1.lines = s.lines := by
  unfold putHold
  split
  · dsimp only [accept]
    obtain ⟨-, htb, hlines⟩ := kept_iff.1 (expireBoth_kept _)
    exact ⟨htb, hlines⟩
  · exact ⟨rfl, rfl⟩

theorem putTimebase_lines (b : Bytes 1) (s : State) : (putTimebase b s).1.lines = s.lines := by
  unfold putTimebase
  split
  · rfl
  · split <;> rfl

theorem putAlertmap_time_lines (b : Bytes 9) (s : State) :
    (putAlertmap b s).1.tb = s.tb ∧ (putAlertmap b s).1.lines = s.lines := by
  unfold putAlertmap
  split <;> exact ⟨rfl, rfl⟩

theorem putEntry_time_lines (n : Fin 16) (b : Bytes 28) (s : State) :
    (putEntry n b s).1.tb = s.tb ∧ (putEntry n b s).1.lines = s.lines := by
  unfold putEntry
  split
  · exact ⟨rfl, rfl⟩
  · split
    · split <;> exact ⟨rfl, rfl⟩
    · exact ⟨rfl, rfl⟩

theorem putCounter_time_lines (n : Fin 4) (b : Bytes 11) (s : State) :
    (putCounter n b s).1.tb = s.tb ∧ (putCounter n b s).1.lines = s.lines := by
  unfold putCounter
  split
  · exact ⟨rfl, rfl⟩
  · split
    · split <;> exact ⟨rfl, rfl⟩
    · exact ⟨rfl, rfl⟩

theorem setEnabled_time_lines (n : Byte) (on : Bool) (s : State) :
    (setEnabled n on s).1.tb = s.tb ∧ (setEnabled n on s).1.lines = s.lines := by
  unfold setEnabled
  split <;> exact ⟨rfl, rfl⟩

theorem takeCommand_time_lines {n : Nat} {act : State → State × List Byte}
    (h : (act s).1.tb = s.tb ∧ (act s).1.lines = s.lines) :
    (takeCommand n act s).tb = s.tb ∧ (takeCommand n act s).lines = s.lines :=
  ⟨takeCommand_keeps State.tb (fun _ _ _ => rfl) h.1, takeCommand_keeps State.lines (fun _ _ _ => rfl) h.2⟩

/-- A command that configures, but for PUT TIMEBASE and the resets, moves neither the timebase nor a line. -/
theorem exec_time_lines_of_configures {c : Instr} (hc : configures c = true) (ht : movesTime c = false)
    (h : exec c s = .next t) : t.tb = s.tb ∧ t.lines = s.lines := by
  cases c with
  | putSession b => cases h; exact takeCommand_time_lines (putSession_time_lines b s)
  | putRing b => cases h; exact takeCommand_time_lines (putRing_time_lines b s)
  | putHold b => cases h; exact takeCommand_time_lines (putHold_time_lines b s)
  | putAlertmap b => cases h; exact takeCommand_time_lines (putAlertmap_time_lines b s)
  | putEntry n b => cases h; exact takeCommand_time_lines (putEntry_time_lines n b s)
  | putCounter n b => cases h; exact takeCommand_time_lines (putCounter_time_lines n b s)
  | enable n => cases h; exact takeCommand_time_lines (setEnabled_time_lines n true s)
  | disable n => cases h; exact takeCommand_time_lines (setEnabled_time_lines n false s)
  | putTimebase | deviceReset | powerOn => cases ht
  | _ => cases hc

/-! ### The commands on the lines keep the configuration and the timebase -/

theorem setup_time_of_fixed (u : State) (h : t.fixed = u.fixed) (hs : u.setup = s.setup) (ht : u.tb = s.tb) :
    t.setup = s.setup ∧ t.tb = s.tb := by
  obtain ⟨hsetup, htb, -⟩ := kept_iff.1 (kept_of_fixed h)
  exact ⟨hsetup.trans hs, htb.trans ht⟩

theorem pathReset_setup_time (s : State) : (pathReset s).setup = s.setup ∧ (pathReset s).tb = s.tb := by
  unfold pathReset
  split
  · exact ⟨rfl, rfl⟩
  · exact setup_time_of_fixed (clearPath s) ((finish_fixed _).trans (raiseMapped_fixed _ _ _)) rfl rfl

theorem endPathReset_setup_time (s : State) : (endPathReset s).setup = s.setup ∧ (endPathReset s).tb = s.tb := by
  unfold endPathReset
  split
  · exact setup_time_of_fixed _ ((finish_fixed _).trans (readOldest_fixed _)) rfl rfl
  · exact ⟨rfl, rfl⟩

theorem releaseReset_setup_time (s : State) : (releaseReset s).setup = s.setup ∧ (releaseReset s).tb = s.tb := by
  unfold releaseReset
  split
  · exact setup_time_of_fixed _ ((finish_fixed _).trans (readOldest_fixed _)) rfl rfl
  · exact ⟨rfl, rfl⟩

theorem deassertCs_setup_time (f : FrameState) (s : State) :
    (deassertCs f s).setup = s.setup ∧ (deassertCs f s).tb = s.tb := by
  unfold deassertCs
  split <;> exact ⟨rfl, rfl⟩

theorem assertCs_setup_time (s : State) : (assertCs s).setup = s.setup ∧ (assertCs s).tb = s.tb := by
  unfold assertCs
  split
  · exact ⟨rfl, rfl⟩
  · dsimp only
    split <;> exact ⟨rfl, rfl⟩

/-- A command on the lines, but for the assertions of RESET, keeps the configuration and the timebase. -/
theorem exec_setup_time_of_movesLines {c : Instr} (hl : movesLines c = true) (ht : movesTime c = false)
    (h : exec c s = .next t) : t.setup = s.setup ∧ t.tb = s.tb := by
  cases c with
  | pathReset => cases h; exact pathReset_setup_time s
  | prstDeasserted => cases h; exact endPathReset_setup_time s
  | resetRelease => cases h; exact releaseReset_setup_time s
  | truncatedFrame => cases h; exact deassertCs_setup_time .receiving s
  | frameEnd => cases h; exact deassertCs_setup_time .answering s
  | csDeassertedAfterReset => cases h; exact deassertCs_setup_time .idle s
  | frameStart => cases h; exact assertCs_setup_time s
  | deviceReset | powerOn => cases ht
  | _ => cases hl

/-! ### The commands that move the time -/

theorem Counter.tick_setup (c : Counter) : c.tick.setup = c.setup := by
  unfold Counter.tick
  split
  · split <;> rfl
  · rfl

theorem countTick_setup (s : State) : (countTick s).setup = s.setup := by
  have hc : mapVec Counter.setup (mapVec Counter.tick s.counters) = mapVec Counter.setup s.counters := by
    apply Vector.ext
    intro i hi
    simp [Counter.tick_setup]
  by_cases hw : s.sc.session = .watching <;> simp [countTick, State.setup, hw, hc]

theorem countTick_lines (s : State) : (countTick s).lines = s.lines := rfl

theorem tick_setup_lines (s : State) : (tick s).setup = s.setup ∧ (tick s).lines = s.lines := by
  unfold tick
  split
  · exact ⟨rfl, rfl⟩
  · obtain ⟨hsetup, -, hlines⟩ := kept_iff.1 (kept_of_fixed (settle_fixed s))
    exact ⟨(countTick_setup _).trans hsetup, (countTick_lines _).trans hlines⟩

/-! ### The three parts, each kept by the commands that do not write it -/

/-- Only the commands that configure change the configuration (R1, R61, R66, R83, R101, R134, R158). -/
theorem exec_setup {c : Instr} (hc : configures c = false) (h : exec c s = .next t) : t.setup = s.setup := by
  cases ht : movesTime c with
  | true =>
    cases c with
    | tick => cases h; exact (tick_setup_lines s).1
    | putTimebase | deviceReset | powerOn => cases hc
    | _ => cases ht
  | false =>
    cases hl : movesLines c with
    | true => exact (exec_setup_time_of_movesLines hl ht h).1
    | false => exact (kept_iff.1 (exec_kept (by simp [writesKept, hc, ht, hl]) h)).1

/-- Only a tick, PUT TIMEBASE and the resets move the timebase (R63, R65, R172). -/
theorem exec_tb {c : Instr} (ht : movesTime c = false) (h : exec c s = .next t) : t.tb = s.tb := by
  cases hl : movesLines c with
  | true => exact (exec_setup_time_of_movesLines hl ht h).2
  | false =>
    cases hc : configures c with
    | true => exact (exec_time_lines_of_configures hc ht h).1
    | false => exact (kept_iff.1 (exec_kept (by simp [writesKept, hc, ht, hl]) h)).2.1

/-- Only the commands on the lines move a line. -/
theorem exec_lines {c : Instr} (hl : movesLines c = false) (h : exec c s = .next t) : t.lines = s.lines := by
  cases ht : movesTime c with
  | true =>
    cases c with
    | tick => cases h; exact (tick_setup_lines s).2
    | putTimebase b => cases h; exact takeCommand_keeps State.lines (fun _ _ _ => rfl) (putTimebase_lines b s)
    | deviceReset | powerOn => cases hl
    | _ => cases ht
  | false =>
    cases hc : configures c with
    | true => exact (exec_time_lines_of_configures hc ht h).2
    | false => exact (kept_iff.1 (exec_kept (by simp [writesKept, hc, ht, hl]) h)).2.2

end Sys2Proof.Machine

namespace Sys2Proof.Proofs.WatchEntries

open Sys2Proof.Machine

/-- Settles O4. -/
theorem configurationTimeAndLinesAreKept : Obligations.ConfigurationTimeAndLinesAreKept :=
  fun _ _ _ h => ⟨fun hc => exec_setup hc h, fun ht => exec_tb ht h, fun hl => exec_lines hl h⟩

end Sys2Proof.Proofs.WatchEntries
end

section
/-! The matching of a request (R8 to R12, R14, R24): the data test of a beat, the early criteria, the early hit set and
the late candidates (obligations O37 and O38). -/

namespace Sys2Proof.Machine

/-! ### Sets of entries and of counters, bit by bit -/

theorem allEntries_getElem? : ∀ n : Fin 16, allEntries[n.val]? = some n := by decide

theorem allCounters_getElem? : ∀ k : Fin 4, allCounters[k.val]? = some k := by decide

/-- Entry n is in bit n of a set (R171). -/
@[simp] theorem entrySet_getLsbD (p : Fin 16 → Bool) (n : Fin 16) : (entrySet p).getLsbD n.val = p n := by
  simp only [entrySet, BitVec.getLsbD_setWidth, BitVec.getLsbD_ofBoolListLE, List.getD_eq_getElem?_getD,
    List.getElem?_map, allEntries_getElem?, n.isLt]
  rfl

/-- Counter n is in bit n of a set (R171). -/
@[simp] theorem counterSet_getLsbD (p : Fin 4 → Bool) (k : Fin 4) : (counterSet p).getLsbD k.val = p k := by
  simp only [counterSet, BitVec.getLsbD_setWidth, BitVec.getLsbD_ofBoolListLE, List.getD_eq_getElem?_getD,
    List.getElem?_map, allCounters_getElem?, k.isLt]
  rfl

/-- Two sets of entries with the same members are the same. -/
theorem entrySet_ext {x y : BitVec 16} (h : ∀ n : Fin 16, x.getLsbD n.val = y.getLsbD n.val) : x = y :=
  BitVec.eq_of_getLsbD_eq fun i hi => h ⟨i, hi⟩

/-- Two sets of counters with the same members are the same. -/
theorem counterSet_ext {x y : BitVec 4} (h : ∀ k : Fin 4, x.getLsbD k.val = y.getLsbD k.val) : x = y :=
  BitVec.eq_of_getLsbD_eq fun i hi => h ⟨i, hi⟩

theorem mem_entriesIn {e : BitVec 16} {n : Fin 16} : n ∈ entriesIn e ↔ e.getLsbD n.val = true := by
  have hn : n ∈ allEntries := List.mem_of_getElem? (allEntries_getElem? n)
  simp [entriesIn, hn]

theorem mem_countersIn {c : BitVec 4} {k : Fin 4} : k ∈ countersIn c ↔ c.getLsbD k.val = true := by
  have hk : k ∈ allCounters := List.mem_of_getElem? (allCounters_getElem? k)
  simp [countersIn, hk]

/-- The members of a set stand in ascending order. -/
theorem entriesIn_ascending (e : BitVec 16) : (entriesIn e).Pairwise (· < ·) :=
  List.Pairwise.filter _ (by decide)

/-! ### The data test of a beat (R10) -/

theorem low_bits_of_byte : ∀ i < 32, (0x000000FF#32).getLsbD i = decide (i < 8) := by decide

theorem low_bits_of_half : ∀ i < 32, (0x0000FFFF#32).getLsbD i = decide (i < 16) := by decide

theorem all_bits_of_word : ∀ i < 32, (0xFFFFFFFF#32).getLsbD i = true := by decide

/-- The mask of an aligned request holds the bits of the lanes it enables (R24). -/
theorem laneMask_getLsbD {a : Word} {beats : Nat} {size : Size} {i : Nat} (ha : a.toNat % size.bytes = 0)
    (hi : i < 32) :
    (laneMask a beats size).getLsbD i = true ↔
      (beats ≠ 1 ∨ size = .word ∨ (size = .half ∧ i / 8 / 2 = a.toNat % 4 / 2) ∨
        (size = .byte ∧ i / 8 = a.toNat % 4)) := by
  unfold laneMask
  split
  case isFalse hb => simp [hb, all_bits_of_word i hi]
  case isTrue hb =>
    cases size with
    | word => simp [all_bits_of_word i hi]
    | half =>
      have h := low_bits_of_half (i - 8 * (a.toNat % 4)) (by omega)
      simp only [Size.bytes] at ha
      simp only [BitVec.getLsbD_shiftLeft, h, hi, hb]
      simp
      omega
    | byte =>
      have h := low_bits_of_byte (i - 8 * (a.toNat % 4)) (by omega)
      simp only [BitVec.getLsbD_shiftLeft, h, hi, hb]
      simp
      omega

theorem ne_zero_iff_exists_getLsbD (x : Word) : x ≠ 0#32 ↔ ∃ i : Fin 32, x.getLsbD i.val = true := by
  rw [ne_eq, ← not_iff_not, not_not, not_exists]
  constructor
  · rintro rfl i
    simp
  · intro h
    refine BitVec.eq_of_getLsbD_eq fun i hi => ?_
    simpa using h ⟨i, hi⟩

theorem and_eq_and_iff_getLsbD (x y care : Word) :
    x &&& care = y &&& care ↔ ∀ i : Fin 32, care.getLsbD i.val = true → x.getLsbD i.val = y.getLsbD i.val := by
  constructor
  · intro h i hc
    have hi := congrArg (BitVec.getLsbD · i.val) h
    simpa only [BitVec.getLsbD_and, hc, Bool.and_true] using hi
  · intro h
    refine BitVec.eq_of_getLsbD_eq fun i hi => ?_
    cases hc : care.getLsbD i with
    | false => simp [hc]
    | true => simpa [hc] using h ⟨i, hi⟩ hc

/-- R10: some care bit lies in the mask, and the beat agrees with the compare word on each. -/
theorem Pattern.matches_iff (p : Pattern) (mask beat : Word) :
    p.matches mask beat = true ↔
      (∃ i : Fin 32, p.care.getLsbD i.val = true ∧ mask.getLsbD i.val = true) ∧
        ∀ i : Fin 32, p.care.getLsbD i.val = true → mask.getLsbD i.val = true →
          beat.getLsbD i.val = p.compare.getLsbD i.val := by
  simp only [Pattern.matches, Bool.and_eq_true, decide_eq_true_eq, ne_zero_iff_exists_getLsbD, and_eq_and_iff_getLsbD,
    BitVec.getLsbD_and, and_imp]

theorem Pattern.matchesAny_iff (p : Pattern) (mask : Word) (beats : List Word) :
    p.matchesAny mask beats = true ↔ ∃ beat ∈ beats, p.matches mask beat = true := List.any_eq_true

/-! ### The early criteria (R8, R9) -/

theorem Direction.takes_iff (d : Direction) (k : Kind) :
    d.takes k = true ↔ (d = .either ∨ (d = .read ∧ k = .read) ∨ (d = .write ∧ k = .write)) := by
  cases d <;> simp [Direction.takes]

/-- A request that passes the protocol check spans at least one byte (R26). -/
theorem spanBytes_pos {r : Request} (h : malformed r = false) : 0 < spanBytes r.beats (requestSize r) := by
  unfold spanBytes
  split
  · cases requestSize r <;> decide
  · rename_i hb
    have hz : r.beats ≠ 0 := by
      intro hz
      unfold malformed at h
      split at h <;> simp [hz] at h
    omega

/-- Two ranges of bytes overlap when they share a byte (R9). -/
theorem Entry.overlaps_iff {e : Entry} {a : Word} {count : Nat} (hc : 0 < count) (he : e.low.toNat ≤ e.high.toNat) :
    e.overlaps a count = true ↔
      ∃ k, k < count ∧ e.low.toNat ≤ a.toNat + k ∧ a.toNat + k ≤ e.high.toNat := by
  simp only [Entry.overlaps, Bool.and_eq_true, decide_eq_true_eq]
  constructor
  · rintro ⟨hlow, hhigh⟩
    exact ⟨e.low.toNat - a.toNat, by omega, by omega, by omega⟩
  · rintro ⟨k, hk, hlow, hhigh⟩
    exact ⟨by omega, by omega⟩

/-- R11: the early hit of an entry that meets its early criteria rests on its data pattern, if it has one. -/
theorem Entry.hitsEarly_iff (e : Entry) (r : Request) (level : Fin 4) :
    e.hitsEarly r level = true ↔
      e.meetsEarly r level = true ∧
      (e.pattern = none ∨
        ∃ p, e.pattern = some p ∧ r.kind = .write ∧
          ∃ beat ∈ r.data, p.matches (laneMask r.address r.beats (requestSize r)) beat = true) := by
  rw [Entry.hitsEarly, Bool.and_eq_true]
  cases e.pattern with
  | none => simp
  | some p => simp [Pattern.matchesAny_iff]

/-- R12: the late candidates of a read are the entries with a pattern that meet their early criteria. -/
theorem Entry.candidate_iff (e : Entry) (r : Request) (level : Fin 4) :
    e.candidate r level = true ↔ e.meetsEarly r level = true ∧ e.pattern ≠ none ∧ r.kind = .read := by
  simp [Entry.candidate, Option.isSome_iff_ne_none, and_assoc]

end Sys2Proof.Machine

namespace Sys2Proof.Proofs.WatchEntries

open Sys2Proof.Machine

/-- Settles O37: the mask's bits are those of the enabled lanes. -/
theorem dataTestOfABeat : Obligations.DataTestOfABeat := by
  intro p a beat beats size enabled ha hen
  have hmask : ∀ i : Fin 32, (laneMask a beats size).getLsbD i.val = true ↔ enabled (i.val / 8) := fun i =>
    (laneMask_getLsbD ha i.isLt).trans (hen _).symm
  simp only [Pattern.matches_iff, hmask]

/-- Settles O38, one criterion after the other. -/
theorem earlyMatchCriteria : Obligations.EarlyMatchCriteria := by
  intro entries r level n hr hn
  refine ⟨?criteria, ?early, ?candidates⟩
  case criteria =>
    simp only [Entry.meetsEarly, Bool.and_eq_true, Direction.takes_iff, Entry.overlaps_iff (spanBytes_pos hr) hn,
      and_assoc]
  case early => rw [earlySet, entrySet_getLsbD, Entry.hitsEarly_iff]
  case candidates => rw [candidateSet, entrySet_getLsbD, Entry.candidate_iff]

end Sys2Proof.Proofs.WatchEntries
end

section
/-! How the hits of one transaction combine (R16 to R20): what is said of the first member of a set, of all of them, and
of the merged capture option (obligation O39). -/

namespace Sys2Proof.Machine

/-! ### The first member of an ascending list -/

/-- A member of an ascending list stands behind smaller ones alone. -/
theorem exists_smaller_before {l : List (Fin 16)} (hl : l.Pairwise (· < ·)) {n : Fin 16} (hn : n ∈ l) :
    ∃ before after, l = before ++ n :: after ∧ ∀ m ∈ before, m < n := by
  obtain ⟨before, after, rfl⟩ := List.append_of_mem hn
  exact ⟨before, after, rfl, fun m hm => (List.pairwise_append.1 hl).2.2 m hm n List.mem_cons_self⟩

theorem findSome?_entriesIn {α : Type} {e : BitVec 16} {f : Fin 16 → Option α} {n : Fin 16} {v : α}
    (hn : e.getLsbD n.val = true) (hv : f n = some v) (hfirst : ∀ m < n, e.getLsbD m.val = true → f m = none) :
    (entriesIn e).findSome? f = some v := by
  obtain ⟨before, after, hl, hbefore⟩ := exists_smaller_before (entriesIn_ascending e) (mem_entriesIn.2 hn)
  refine List.findSome?_eq_some_iff.2 ⟨before, n, after, hl, hv, fun m hm => hfirst m (hbefore m hm) ?_⟩
  exact mem_entriesIn.1 (hl ▸ List.mem_append_left _ hm)

theorem find?_entriesIn {e : BitVec 16} {p : Fin 16 → Bool} {n : Fin 16} (hn : e.getLsbD n.val = true) (hp : p n = true)
    (hfirst : ∀ m < n, e.getLsbD m.val = true → p m = false) : (entriesIn e).find? p = some n := by
  obtain ⟨before, after, hl, hbefore⟩ := exists_smaller_before (entriesIn_ascending e) (mem_entriesIn.2 hn)
  refine List.find?_eq_some_iff_append.2 ⟨hp, before, after, hl, fun m hm => ?_⟩
  rw [hfirst m (hbefore m hm) (mem_entriesIn.1 (hl ▸ List.mem_append_left _ hm))]
  rfl

theorem find?_entriesIn_eq_none {e : BitVec 16} {p : Fin 16 → Bool}
    (h : ∀ n : Fin 16, e.getLsbD n.val = true → p n = false) : (entriesIn e).find? p = none :=
  List.find?_eq_none.2 fun n hn => by simp [h n (mem_entriesIn.1 hn)]

theorem any_entriesIn {e : BitVec 16} {p : Fin 16 → Bool} :
    (entriesIn e).any p = true ↔ ∃ n : Fin 16, e.getLsbD n.val = true ∧ p n = true := by
  simp only [List.any_eq_true, mem_entriesIn]

/-! ### The disposition (R16) -/

variable {entries : Vector Entry 16} {e : BitVec 16}

theorem verdictOf_of_block {n : Fin 16} (hn : e.getLsbD n.val = true) (hb : entries[n].dispose = .block)
    (hfirst : ∀ m < n, e.getLsbD m.val = true → entries[m].dispose ≠ .block) :
    verdictOf entries e = .block entries[n].blockStatus := by
  unfold verdictOf
  rw [find?_entriesIn hn (decide_eq_true hb) fun m hm he => decide_eq_false (hfirst m hm he)]

theorem verdictOf_of_hold {n : Fin 16} (hblock : ∀ m : Fin 16, e.getLsbD m.val = true → entries[m].dispose ≠ .block)
    (hn : e.getLsbD n.val = true) (hh : entries[n].dispose = .hold)
    (hfirst : ∀ m < n, e.getLsbD m.val = true → entries[m].dispose ≠ .hold) : verdictOf entries e = .hold n := by
  unfold verdictOf
  rw [find?_entriesIn_eq_none fun m he => decide_eq_false (hblock m he),
    find?_entriesIn hn (decide_eq_true hh) fun m hm he => decide_eq_false (hfirst m hm he)]

theorem verdictOf_of_none (h : ∀ n : Fin 16, e.getLsbD n.val = true → entries[n].dispose = .none) :
    verdictOf entries e = .forward := by
  unfold verdictOf
  rw [find?_entriesIn_eq_none fun m he => decide_eq_false (by rw [h m he]; decide),
    find?_entriesIn_eq_none fun m he => decide_eq_false (by rw [h m he]; decide)]

/-! ### The record owed (R17) -/

theorem owesRecord_iff :
    owesRecord entries e = true ↔ ∃ n : Fin 16, e.getLsbD n.val = true ∧ entries[n].capture = true := any_entriesIn

theorem wantsLossless_iff :
    wantsLossless entries e = true ↔
      ∃ n : Fin 16, e.getLsbD n.val = true ∧ entries[n].capture = true ∧ entries[n].lossless = true := by
  simp only [wantsLossless, any_entriesIn, Bool.and_eq_true]

/-! ### The merged capture option (R15, R17) -/

theorem DataOption.max_eq (a b : DataOption) : a.max b = a ∨ a.max b = b := by
  unfold DataOption.max
  split
  · exact .inr rfl
  · exact .inl rfl

theorem DataOption.code_max (a b : DataOption) : (a.max b).code = Nat.max a.code b.code := by
  cases a <;> cases b <;> rfl

theorem DataOption.code_eq_zero {a : DataOption} (h : a.code ≤ DataOption.none.code) : a = .none := by
  cases a with
  | none => rfl
  | first | all => cases h

/-- The option that the CAPTURE entries of a list merge to: `mergedOption` over the list of a set's members. -/
def mergedOver (entries : Vector Entry 16) (l : List (Fin 16)) (previous : DataOption) : DataOption :=
  l.foldl (fun o n => if entries[n].capture then o.max entries[n].dataOption else o) previous

theorem mergedOption_eq (previous : DataOption) :
    mergedOption entries e previous = mergedOver entries (entriesIn e) previous := rfl

theorem mergedOver_cons_of_capture {n : Fin 16} {l : List (Fin 16)} {previous : DataOption}
    (h : entries[n].capture = true) :
    mergedOver entries (n :: l) previous = mergedOver entries l (previous.max entries[n].dataOption) := by
  rw [mergedOver, List.foldl_cons, if_pos h, mergedOver]

theorem mergedOver_cons_of_not_capture {n : Fin 16} {l : List (Fin 16)} {previous : DataOption}
    (h : entries[n].capture ≠ true) : mergedOver entries (n :: l) previous = mergedOver entries l previous := by
  rw [mergedOver, List.foldl_cons, if_neg h, mergedOver]

/-- The merged option is the previous one or that of a CAPTURE entry. -/
theorem mergedOver_mem (l : List (Fin 16)) (previous : DataOption) :
    mergedOver entries l previous = previous ∨
      ∃ n ∈ l, entries[n].capture = true ∧ mergedOver entries l previous = entries[n].dataOption := by
  induction l generalizing previous with
  | nil => exact .inl rfl
  | cons n l ih =>
    by_cases hc : entries[n].capture = true
    · rw [mergedOver_cons_of_capture hc]
      obtain h | ⟨m, hm, hmc, h⟩ := ih (previous.max entries[n].dataOption)
      · obtain hp | hn := previous.max_eq entries[n].dataOption
        · exact .inl (h.trans hp)
        · exact .inr ⟨n, List.mem_cons_self, hc, h.trans hn⟩
      · exact .inr ⟨m, List.mem_cons_of_mem _ hm, hmc, h⟩
    · rw [mergedOver_cons_of_not_capture hc]
      obtain h | ⟨m, hm, hmc, h⟩ := ih previous
      · exact .inl h
      · exact .inr ⟨m, List.mem_cons_of_mem _ hm, hmc, h⟩

/-- The merged option is at least the previous one and that of each CAPTURE entry. -/
theorem mergedOver_ge (l : List (Fin 16)) (previous : DataOption) :
    previous.code ≤ (mergedOver entries l previous).code ∧
      ∀ n ∈ l, entries[n].capture = true → entries[n].dataOption.code ≤ (mergedOver entries l previous).code := by
  induction l generalizing previous with
  | nil => exact ⟨Nat.le_refl _, fun n hn => by cases hn⟩
  | cons n l ih =>
    by_cases hc : entries[n].capture = true
    · rw [mergedOver_cons_of_capture hc]
      obtain ⟨hp, hl⟩ := ih (previous.max entries[n].dataOption)
      rw [DataOption.code_max] at hp
      refine ⟨(Nat.le_max_left _ _).trans hp, fun m hm hmc => ?_⟩
      obtain rfl | hm := List.mem_cons.1 hm
      · exact (Nat.le_max_right _ _).trans hp
      · exact hl m hm hmc
    · rw [mergedOver_cons_of_not_capture hc]
      obtain ⟨hp, hl⟩ := ih previous
      refine ⟨hp, fun m hm hmc => ?_⟩
      obtain rfl | hm := List.mem_cons.1 hm
      · exact absurd hmc hc
      · exact hl m hm hmc

theorem mergedOption_mem (previous : DataOption) :
    mergedOption entries e previous = previous ∨
      ∃ n : Fin 16, e.getLsbD n.val = true ∧ entries[n].capture = true ∧
        mergedOption entries e previous = entries[n].dataOption := by
  simpa only [mergedOption_eq, mem_entriesIn] using mergedOver_mem (entriesIn e) previous

theorem mergedOption_ge (previous : DataOption) :
    previous.code ≤ (mergedOption entries e previous).code ∧
      ∀ n : Fin 16, e.getLsbD n.val = true → entries[n].capture = true →
        entries[n].dataOption.code ≤ (mergedOption entries e previous).code := by
  simpa only [mergedOption_eq, mem_entriesIn] using mergedOver_ge (entriesIn e) previous

theorem mergedOption_of_no_capture (h : ∀ n : Fin 16, e.getLsbD n.val = true → entries[n].capture = false)
    (previous : DataOption) : mergedOption entries e previous = previous := by
  obtain hp | ⟨n, hn, hc, -⟩ := mergedOption_mem (entries := entries) (e := e) previous
  · exact hp
  · rw [h n hn] at hc
    cases hc

/-- Formed from no previous option, the merged option is that of a CAPTURE entry, if there is one. -/
theorem mergedOption_none_mem (h : ∃ n : Fin 16, e.getLsbD n.val = true ∧ entries[n].capture = true) :
    ∃ n : Fin 16, e.getLsbD n.val = true ∧ entries[n].capture = true ∧
      mergedOption entries e .none = entries[n].dataOption := by
  obtain hp | hmem := mergedOption_mem (entries := entries) (e := e) .none
  · obtain ⟨n, hn, hc⟩ := h
    have hle := (mergedOption_ge (entries := entries) (e := e) .none).2 n hn hc
    rw [hp] at hle
    exact ⟨n, hn, hc, by rw [hp, DataOption.code_eq_zero hle]⟩
  · exact hmem

/-! ### Causes, counter notices, level and stop (R18 to R20) -/

theorem mem_alertsOf {n : Fin 16} {c : Fin 4} :
    (n, c) ∈ alertsOf entries e ↔ e.getLsbD n.val = true ∧ entries[n].alert = some c := by
  simp only [alertsOf, List.mem_filterMap, Option.map_eq_some_iff, Prod.mk.injEq, mem_entriesIn]
  constructor
  · rintro ⟨m, hm, d, hd, rfl, rfl⟩
    exact ⟨hm, hd⟩
  · rintro ⟨hn, hc⟩
    exact ⟨n, hn, c, hc, rfl, rfl⟩

theorem alertsOf_ascending : ((alertsOf entries e).map fun x => x.1).Pairwise (· < ·) := by
  rw [List.pairwise_map]
  refine (entriesIn_ascending e).filterMap _ fun m n hlt x hx y hy => ?_
  obtain ⟨c, -, rfl⟩ := Option.map_eq_some_iff.1 hx
  obtain ⟨d, -, rfl⟩ := Option.map_eq_some_iff.1 hy
  exact hlt

theorem linksOf_getLsbD {k : Fin 4} :
    (linksOf entries e).getLsbD k.val = true ↔ ∃ n : Fin 16, e.getLsbD n.val = true ∧ entries[n].link = some k := by
  simp only [linksOf, counterSet_getLsbD, any_entriesIn, decide_eq_true_eq]

theorem levelOf_of_first {n : Fin 16} {v : Fin 4} (hn : e.getLsbD n.val = true) (hv : entries[n].nextLevel = some v)
    (hfirst : ∀ m < n, e.getLsbD m.val = true → entries[m].nextLevel = none) : levelOf entries e = some (n, v) :=
  findSome?_entriesIn hn (by rw [hv]; rfl) fun m hm he => by rw [hfirst m hm he]; rfl

theorem levelOf_eq_none (h : ∀ n : Fin 16, e.getLsbD n.val = true → entries[n].nextLevel = none) :
    levelOf entries e = none :=
  List.findSome?_eq_none_iff.2 fun n hn => by rw [h n (mem_entriesIn.1 hn)]; rfl

theorem stopOf_of_first {n : Fin 16} (hn : e.getLsbD n.val = true) (hs : entries[n].stop = true)
    (hfirst : ∀ m < n, e.getLsbD m.val = true → entries[m].stop = false) : stopOf entries e = some n :=
  find?_entriesIn (p := fun m => entries[m].stop) hn hs hfirst

theorem stopOf_eq_none (h : ∀ n : Fin 16, e.getLsbD n.val = true → entries[n].stop = false) : stopOf entries e = none :=
  find?_entriesIn_eq_none h

end Sys2Proof.Machine

namespace Sys2Proof.Proofs.WatchEntries

open Sys2Proof.Machine

/-- Settles O39, one part of the outcome after the other. -/
theorem combinedOutcome : Obligations.CombinedOutcome := by
  intro entries e hit hhit
  simp only [hhit]
  refine ⟨fun n => verdictOf_of_block, fun n hb => verdictOf_of_hold hb, verdictOf_of_none, owesRecord_iff,
    wantsLossless_iff, mergedOption_of_no_capture, fun h => ⟨mergedOption_none_mem h, (mergedOption_ge .none).2⟩,
    fun previous => ⟨mergedOption_mem previous, mergedOption_ge previous⟩, fun n c => mem_alertsOf, alertsOf_ascending,
    fun k => linksOf_getLsbD, fun n v => levelOf_of_first, levelOf_eq_none, fun n => stopOf_of_first,
    stopOf_eq_none⟩

end Sys2Proof.Proofs.WatchEntries
end

section
/-! A request that is read while nothing else is left to do, and what becomes of it in pass-through (obligation O36). -/

namespace Sys2Proof.Machine

variable {s u : State}

/-! ### Hits that ask for nothing leave the state alone -/

theorem modifyRow_of_eq {tag : Fin 8} {f : Row → Row} (h : f s.rows[tag] = s.rows[tag]) : modifyRow tag f s = s := by
  rw [modifyRow, h]
  simp

/-- The event that brings no notice and no tick. -/
def CounterEvent.quiet : CounterEvent := { hits := 0#4, ticked := false }

theorem Counter.take_quiet (c : Counter) (n : Fin 4) : c.take .quiet n 0#4 = (c, false) := by
  have hcounts : c.counts .quiet n 0#4 = false := by
    unfold Counter.counts CounterEvent.quiet
    cases c.mode <;> cases c.source <;> simp
  rw [Counter.take, hcounts]
  simp [CounterEvent.quiet]

theorem takeEvent_quiet (cs : Vector Counter 4) : takeEvent .quiet cs = (cs, 0#4) := by
  unfold takeEvent
  induction allCounters with
  | nil => rfl
  | cons n l ih => simpa [Counter.take_quiet] using ih

@[simp] theorem counterEvent_quiet (s : State) : counterEvent { hits := 0#4, ticked := false } s = s := by
  change counterEvent .quiet s = s
  unfold counterEvent
  split
  · simp only [takeEvent_quiet]
    rfl
  · rfl

/-- No notice is sent, and the row's set of counters notified stays (R19). -/
@[simp] theorem notify_none (tag : Fin 8) (s : State) : notify tag 0#4 s = s := by
  rw [notify, counterEvent_quiet]
  exact modifyRow_of_eq (by simp)

@[simp] theorem countHits_none (s : State) : countHits 0#16 s = s := rfl

@[simp] theorem raiseHits_nil (s : State) : raiseHits [] s = s := rfl

@[simp] theorem requestLevel_none (s : State) : requestLevel none s = s := rfl

@[simp] theorem requestStop_none (s : State) : requestStop none s = s := rfl

theorem handOn_passThrough (tag : Fin 8) (s : State) : handOn tag .passThrough s = s := by
  simp [handOn, MatchOutcome.passThrough]

/-! ### The end of a step in which the arbiter alone has something to do -/

/-- At rest but for the arbiter: no wait is over and STOPPING has no progress to make. -/
abbrev State.settled (s : State) : Prop :=
  s.waitStands = true ∧ (s.mayWait = true ∨ ∀ t : Fin 8, s.rows[t].state ≠ .responding) ∧
    (s.sc.session = .stopping → s.stoppingStands = true)

theorem finish_of_settled (h : s.settled) : finish s = arbitrate s := by
  obtain ⟨hw, hr, hs⟩ := h
  unfold finish
  rw [endLosslessWaits_of_none hw hr, stopProgress_of_stands hs, resumeWait_of_stands hw,
    endLosslessWaits_of_none hw hr, stopProgress_of_stands hs, stopComplete_of_stands hs]

theorem someOwes_iff : s.someOwes = true ↔ ∃ t : Fin 8, s.rows[t].owed = true := by
  simp only [State.someOwes, List.any_eq_true, Vector.mem_toList_iff, Vector.mem_iff_getElem]
  constructor
  · rintro ⟨-, ⟨i, hi, rfl⟩, h⟩
    exact ⟨⟨i, hi⟩, h⟩
  · rintro ⟨t, h⟩
    exact ⟨_, ⟨t.val, t.isLt, rfl⟩, h⟩

/-- With no request waiting, a settled state stays settled when a row changes that owes as much as before and is not
RESPONDING: beside the rows, only the session, the queue and the Ring Writer count. -/
theorem settled_of_row {tag : Fin 8} {q : Row} (h : s.settled) (hidle : u.rqp.acceptance = .idle) (hsc : u.sc = s.sc)
    (hrw : u.rw = s.rw) (hcq : u.cq.records = s.cq.records) (hrows : u.rows = s.rows.set tag q)
    (howed : q.owed = s.rows[tag].owed) (hq : q.state ≠ .responding) : u.settled := by
  obtain ⟨-, hr, hs⟩ := h
  have hrow : ∀ t : Fin 8, u.rows[t] = if tag = t then q else s.rows[t] := by
    intro t
    simp [hrows, Vector.getElem_set, Fin.ext_iff]
  have howes : u.someOwes = s.someOwes := by
    rw [Bool.eq_iff_iff, someOwes_iff, someOwes_iff]
    refine exists_congr fun t => ?_
    rw [hrow]
    split
    case isTrue ht => rw [howed, ht]
    case isFalse => rfl
  refine ⟨by simp [State.waitStands, hidle], ?_, ?_⟩
  · rw [State.mayWait, hsc, hrw]
    refine hr.imp id fun hn t => ?_
    rw [hrow]
    split
    · exact hq
    · exact hn t
  · rw [hsc]
    intro hstop
    have hst := hs hstop
    rw [State.stoppingStands] at hst ⊢
    rw [hsc, howes, hcq, hrw]
    exact hst

/-- With no ring burst to write, the port goes to the head of the Forward Queue (R153). -/
theorem arbitrate_of_forward {tag : Fin 8} {rest : List (Fin 8)} (hp : s.mpa.port = .ready) (hf : s.fq = tag :: rest)
    (hr : s.rw.request = none) : arbitrate s = grantForward tag rest s.mpa.passOver s := by
  simp only [arbitrate, hp, hf, hr]

/-! ### Reading a request (R26, R31, R32, R95) -/

theorem exec_request (r : Option Request) (s : State) : exec (.request r) s = execRequest r s := rfl

theorem presented_nil (h : s.rqp.presented = []) : { s with rqp := { s.rqp with presented := [] } } = s := by
  rw [← h]

theorem acceptance_idle (h : s.rqp.acceptance = .idle) : { s with rqp := { s.rqp with acceptance := .idle } } = s := by
  rw [← h]

theorem acceptance_of_mayRead (h : s.mayRead = true) : s.rqp.acceptance = .idle := by
  simp only [State.mayRead, Bool.and_eq_true, decide_eq_true_eq] at h
  exact h.1.1

/-- A request that is presented to a port that may read it, with no other before it, is read at once. -/
theorem exec_request_of_readyFor (r : Request) (h : s.readyFor) :
    exec (.request (some r)) s = .next (finish (readRequest r s)) := by
  obtain ⟨hread, hpres, -, -⟩ := h
  have hread' : ({ s with rqp := { s.rqp with presented := [r] } } : State).mayRead = true := hread
  have hone : readOldest { s with rqp := { s.rqp with presented := [r] } } = readRequest r s := by
    unfold readOldest
    rw [hread']
    exact congrArg (readRequest r) (presented_nil hpres)
  simp only [exec_request, execRequest, hpres, Option.toList_some, List.nil_append, hread', if_true, hone]

/-- A request that meets no gate is taken. -/
theorem readRequest_of_free {r : Request} (hidle : s.rqp.acceptance = .idle) (hrow : s.rows[r.tag].state = .empty)
    (hm : malformed r = false) (hc : s.covered r.address = false) : readRequest r s = takeRequest r s := by
  rw [readRequest, conflictGate, hrow, hm, hc, acceptance_idle hidle]
  rfl

/-! ### Pass-through (R7, R33, R34, R40) -/

/-- A decision with no outcome to hand on, for a row without a debt, forwards. -/
theorem decideRequest_passThrough {tag : Fin 8} (hidle : s.rqp.acceptance = .idle) (hclaim : s.cq.claim = none)
    (howed : s.rows[tag].owed = false) :
    decideRequest tag .passThrough s =
      queueForward tag (modifyRow tag (fun r => { r with carry := .forwarded, holdRefused := false }) s) := by
  have hport : ∀ t : State, t.rqp = s.rqp → t.cq = s.cq → releasePort t = t := by
    intro t hrqp hcq
    rw [releasePort, ← hclaim, ← hidle, ← hrqp, ← hcq]
  have hrec : ∀ t : State, t.rows[tag].owed = false → writeRecord tag .forwarded false t = t := by
    intro t ht
    rw [writeRecord, ht]
    rfl
  rw [decideRequest, handOn_passThrough]
  simp only [MatchOutcome.passThrough, carryOut, decideForward, requestStop_none]
  rw [hrec _ (by simpa using howed)]
  exact hport _ rfl rfl

/-- A row without a debt does not meet the LOSSLESS gate (R126). -/
theorem losslessGate_of_no_debt {tag : Fin 8} {o : MatchOutcome} (h : s.rows[tag].owed = false) :
    losslessGate tag o s = decideRequest tag o s := by
  simp only [losslessGate, meetsLosslessGate, h, Bool.and_false, Bool.false_and]
  rfl

/-- The row `q` is that of `tag` and QUEUED, and the tag has joined the Forward Queue (R35). -/
def State.withQueued (s : State) (tag : Fin 8) (q : Row) : State :=
  { s with rows := s.rows.set tag { q with state := .queued }, fq := s.fq ++ [tag] }

theorem settled_withQueued {tag : Fin 8} {q : Row} (h : s.settled) (hidle : s.rqp.acceptance = .idle)
    (howed : q.owed = s.rows[tag].owed) : (s.withQueued tag q).settled :=
  settled_of_row (q := { q with state := .queued }) h hidle rfl rfl rfl rfl howed (by simp)

/-- A tag that joins the Forward Queue while nothing is to be granted goes to memory at once, if the port is READY. -/
theorem arbitrate_withQueued {tag : Fin 8} {q : Row} (hg : s.noGrant = true) (hp : s.mpa.port = .ready) :
    arbitrate (s.withQueued tag q) =
      { s with rows := s.rows.set tag { q with state := .issued },
               mpa := { s.mpa with port := .issuing (forwardedRequest tag q) } } := by
  simp only [State.noGrant, hp, Bool.and_eq_true, List.isEmpty_iff, Option.isNone_iff_eq_none] at hg
  obtain ⟨hfq, hreq⟩ := hg
  have hhead : (s.withQueued tag q).fq = tag :: [] := by simp [State.withQueued, hfq]
  rw [arbitrate_of_forward (s := s.withQueued tag q) hp hhead hreq]
  simp [grantForward, modifyRow, State.withQueued, forwardedRequest, hfq]

/-- A request taken outside WATCHING is forwarded with the fields of its taking. -/
theorem takeRequest_of_not_watching {r : Request} (hw : s.sc.session ≠ .watching) (hidle : s.rqp.acceptance = .idle)
    (hclaim : s.cq.claim = none) : takeRequest r s = s.withQueued r.tag (takenRow s r) := by
  have howed : (modifyRow r.tag (fun _ => takenRow s r) s).rows[r.tag].owed = false := by simp [takenRow, Row.empty]
  rw [takeRequest, if_neg hw, losslessGate_of_no_debt howed,
    decideRequest_passThrough (s := modifyRow r.tag (fun _ => takenRow s r) s) hidle hclaim howed]
  simp [queueForward, modifyRow, takenRow, Row.empty, State.withQueued]

end Sys2Proof.Machine

namespace Sys2Proof.Proofs.WatchEntries

open Sys2Proof.Machine

/-- Settles O36: the request is read, meets no gate and is forwarded; with the port READY and nothing else to grant, the
arbiter grants it. -/
theorem passThroughRequest : Obligations.PassThroughRequest := by
  intro r q s hready hw hrow hm hcov hq
  obtain ⟨hread, -, hclaim, hwait, hresp, hstop, hgrant⟩ := id hready
  have hidle := acceptance_of_mayRead hread
  have htaken : takenRow s r = { q with state := .deciding } := by
    rw [hq]
    cases hk : r.kind <;> simp [takenRow, hk]
  have htake : readRequest r s = s.withQueued r.tag q := by
    rw [readRequest_of_free hidle (by rw [hrow]; rfl) hm hcov, takeRequest_of_not_watching hw hidle hclaim, htaken]
    rfl
  have hsettled : (s.withQueued r.tag q).settled :=
    settled_withQueued ⟨hwait, hresp, hstop⟩ hidle (by rw [hrow, hq])
  rw [exec_request_of_readyFor r hready, htake, finish_of_settled hsettled]
  refine ⟨fun d hd => congrArg _ (arbitrate_of_issuing (d := d) hd), fun hport => ?_⟩
  have hsent : forwardedRequest r.tag q =
      { marker := .forwarded, tag := r.tag, kind := r.kind, address := r.address, size := requestSize r,
        beats := r.beats, data := q.writeData } := by
    rw [hq]
    cases r.kind <;> rfl
  rw [arbitrate_withQueued hgrant hport, hsent]

end Sys2Proof.Proofs.WatchEntries
end

section
/-! The late match (R14, R15): what its hits make of the state, notice by notice, and that of a level request and a
stop. -/

namespace Sys2Proof.Machine

variable {s t : State}

/-! ### Causes change the Alert Unit alone -/

theorem raise_eq (cls : Option (Fin 4)) (k : CauseKind) (i : Nat) (s : State) :
    raise cls k i s = { s with au := (raise cls k i s).au } := by
  cases cls <;> rfl

theorem raise_au_congr (cls : Option (Fin 4)) (k : CauseKind) (i : Nat) (h : t.au = s.au) :
    (raise cls k i t).au = (raise cls k i s).au := by
  cases cls with
  | none => exact h
  | some c => simp only [raise, h]

theorem raiseMapped_eq (k : CauseKind) (i : Nat) (s : State) :
    raiseMapped k i s = { s with au := (raiseMapped k i s).au } := raise_eq _ k i s

@[simp] theorem raise_counters (cls : Option (Fin 4)) (k : CauseKind) (i : Nat) (s : State) :
    (raise cls k i s).counters = s.counters := by
  cases cls <;> rfl

theorem raiseHits_eq (l : List (Fin 16 × Fin 4)) (s : State) :
    raiseHits l s = { s with au := (raiseHits l s).au } := by
  induction l generalizing s with
  | nil => rfl
  | cons x l ih =>
    have hcons : raiseHits (x :: l) s = raiseHits l (raise (some x.2) .entryHit x.1.val s) := rfl
    rw [hcons, ih, raise_eq]

theorem raiseHits_au_congr (l : List (Fin 16 × Fin 4)) (h : t.au = s.au) :
    (raiseHits l t).au = (raiseHits l s).au := by
  induction l generalizing s t with
  | nil => exact h
  | cons x l ih => exact ih (raise_au_congr _ _ _ h)

/-! ### What a hit set leaves of the totals, the causes and its row -/

/-- The totals and the ENTRY_HIT causes of the hit set `l` (R15, R18, R21), and the row of `tag` changed to `x`. -/
def State.withHits (s : State) (l : BitVec 16) (tag : Fin 8) (x : Row) : State :=
  { s with rows := s.rows.set tag x, totals := (countHits l s).totals,
           au := (raiseHits (alertsOf s.entries l) s).au }

theorem withHits_eq (l : BitVec 16) (tag : Fin 8) (x : Row) :
    s.withHits l tag x =
      { raiseHits (alertsOf s.entries l) (countHits l s) with rows := s.rows.set tag x } := by
  rw [raiseHits_eq, raiseHits_au_congr (t := countHits l s) (s := s) _ rfl]
  rfl

theorem raiseHits_countHits_modifyRow (l : BitVec 16) (tag : Fin 8) (f : Row → Row) :
    raiseHits (alertsOf s.entries l) (countHits l (modifyRow tag f s)) = s.withHits l tag (f s.rows[tag]) := by
  rw [raiseHits_eq, raiseHits_au_congr (t := countHits l (modifyRow tag f s)) (s := s) _ rfl]
  rfl

theorem modifyRow_withHits (l : BitVec 16) (tag : Fin 8) (f : Row → Row) (x : Row) :
    modifyRow tag f (s.withHits l tag x) = s.withHits l tag (f x) := by
  simp [modifyRow, State.withHits]

theorem withHits_row (l : BitVec 16) (tag : Fin 8) (x : Row) : (s.withHits l tag x).rows[tag] = x := by
  simp [State.withHits]

/-! ### The late hit set (R14) -/

theorem lateSet_getLsbD (tag : Fin 8) (n : Fin 16) :
    (lateSet s tag).getLsbD n.val = true ↔
      s.rows[tag].late.getLsbD n.val = true ∧ s.sc.session = .watching ∧ s.entries[n].enabled = true ∧
      ∃ p, s.entries[n].pattern = some p ∧ ∃ beat ∈ s.rows[tag].readBuf,
        p.matches (laneMask s.rows[tag].address s.rows[tag].beats s.rows[tag].size) beat = true := by
  rw [lateSet, entrySet_getLsbD]
  cases s.entries[n].pattern with
  | none => simp only [Bool.and_false, Bool.false_eq_true, reduceCtorEq, false_and, exists_false, and_false]
  | some p =>
    simp only [Bool.and_eq_true, decide_eq_true_eq, Pattern.matchesAny_iff, Option.some.injEq, exists_eq_left',
      and_assoc]

theorem lateSet_of_no_candidates {tag : Fin 8} (h : s.rows[tag].late = 0#16) : lateSet s tag = 0#16 := by
  refine entrySet_ext fun n => ?_
  rw [BitVec.getLsbD_zero, ← Bool.not_eq_true, lateSet_getLsbD, h, BitVec.getLsbD_zero]
  exact fun hn => Bool.false_ne_true hn.1

/-! ### The late match, cause by cause (R15) -/

/-- The counters that a late hit set notifies: those linked and not yet notified (R19). -/
def freshNotices (s : State) (tag : Fin 8) (l : BitVec 16) : BitVec 4 := linksOf s.entries l &&& ~~~s.rows[tag].notified

theorem freshNotices_unique {tag : Fin 8} {l : BitVec 16} {fresh : BitVec 4}
    (h : ∀ k : Fin 4, fresh.getLsbD k.val = true ↔
      (linksOf s.entries l).getLsbD k.val = true ∧ s.rows[tag].notified.getLsbD k.val = false) :
    fresh = freshNotices s tag l := by
  refine counterSet_ext fun k => ?_
  rw [Bool.eq_iff_iff, h k, freshNotices, BitVec.getLsbD_and, BitVec.getLsbD_not]
  simp [k.isLt]

theorem lateMatch_eq (tag : Fin 8) (s : State) :
    lateMatch tag s =
      requestStop (stopOf s.entries (lateSet s tag))
        (notify tag (freshNotices s tag (lateSet s tag))
          (requestLevel (levelOf s.entries (lateSet s tag))
            (s.withHits (lateSet s tag) tag (lateFields s.entries (lateSet s tag) s.rows[tag])))) := by
  rw [← raiseHits_countHits_modifyRow]
  rfl

/-- Hits that ask for nothing beyond totals, causes and the record. -/
theorem lateMatch_of_plain {tag : Fin 8} (hlinks : linksOf s.entries (lateSet s tag) = 0#4)
    (hlevel : levelOf s.entries (lateSet s tag) = none) (hstop : stopOf s.entries (lateSet s tag) = none) :
    lateMatch tag s = s.withHits (lateSet s tag) tag (lateFields s.entries (lateSet s tag) s.rows[tag]) := by
  have hfresh : freshNotices s tag (lateSet s tag) = 0#4 := by rw [freshNotices, hlinks, BitVec.zero_and]
  rw [lateMatch_eq, hfresh, hlevel, hstop, notify_none, requestLevel_none, requestStop_none]

theorem linksOf_none (entries : Vector Entry 16) : linksOf entries 0#16 = 0#4 := by
  refine counterSet_ext fun k => ?_
  rw [Bool.eq_iff_iff, linksOf_getLsbD]
  simp

/-- With no candidate left, a late match does nothing (R14). -/
theorem lateMatch_of_no_candidates {tag : Fin 8} (h : s.rows[tag].late = 0#16) : lateMatch tag s = s := by
  have hl := lateSet_of_no_candidates h
  have hrow : lateFields s.entries 0#16 s.rows[tag] = s.rows[tag] := by
    have hhits : s.rows[tag].hits ||| 0#16 = s.rows[tag].hits := BitVec.or_zero
    have howes : owesRecord s.entries 0#16 = false := rfl
    have hlossless : wantsLossless s.entries 0#16 = false := rfl
    have hoption : mergedOption s.entries 0#16 s.rows[tag].option = s.rows[tag].option := rfl
    rw [lateFields, hhits, howes, hlossless, hoption, Bool.or_false, Bool.or_false, ← h]
  have hplain := lateMatch_of_plain (s := s) (tag := tag) (by rw [hl, linksOf_none]) (by rw [hl]; rfl) (by rw [hl]; rfl)
  rw [hplain, hl, hrow, State.withHits]
  simp [alertsOf, entriesIn, allEntries]

/-! ### Counter notices (R19, R73, R77) -/

/-- Counters that ask for no level and no record raise their causes alone as they expire. -/
theorem foldl_expiryActions {cs : Vector Counter 4} {l : List (Fin 4)}
    (hcs : ∀ n : Fin 4, s.counters[n].setup = cs[n].setup)
    (hl : ∀ n ∈ l, cs[n].nextLevel = none ∧ cs[n].record = false) :
    l.foldl (fun a n => expiryActions n a) s =
      l.foldl (fun a (n : Fin 4) => raise cs[n].alert .expiry n.val a) s := by
  induction l generalizing s with
  | nil => rfl
  | cons n l ih =>
    obtain ⟨hlevel, hrecord⟩ := hl n List.mem_cons_self
    have hset := hcs n
    simp only [Counter.setup, CounterSetup.mk.injEq] at hset
    obtain ⟨-, -, -, -, halert, hlevel', -, hrecord'⟩ := hset
    have hone : expiryActions n s = raise cs[n].alert .expiry n.val s := by
      simp only [expiryActions, halert, hlevel', hrecord', hlevel, hrecord]
      rfl
    rw [List.foldl_cons, List.foldl_cons, hone]
    exact ih (fun m => by rw [raise_counters]; exact hcs m) fun m hm => hl m (List.mem_cons_of_mem _ hm)

theorem foldl_raise_counters (cs : Vector Counter 4) (l : List (Fin 4)) (s : State) :
    (l.foldl (fun a (n : Fin 4) => raise cs[n].alert .expiry n.val a) s).counters = s.counters := by
  induction l generalizing s with
  | nil => rfl
  | cons n l ih => rw [List.foldl_cons, ih, raise_counters]

/-- Counters that ask for no stop make none as they expire (R78). -/
theorem foldl_expiryStop {l : List (Fin 4)} (hl : ∀ n ∈ l, s.counters[n].stop = false) :
    l.foldl (fun a n => expiryStop n a) s = s := by
  induction l with
  | nil => rfl
  | cons n l ih =>
    have hone : expiryStop n s = s := by rw [expiryStop, hl n List.mem_cons_self]; rfl
    rw [List.foldl_cons, hone]
    exact ih fun m hm => hl m (List.mem_cons_of_mem _ hm)

/-- An event whose expiring counters ask for nothing beyond their causes. -/
theorem counterEvent_of_causes {ev : CounterEvent} {new : Vector Counter 4} {expired : BitVec 4}
    (hw : s.sc.session = .watching) (htake : takeEvent ev s.counters = (new, expired))
    (hplain : ∀ n : Fin 4, expired.getLsbD n.val = true →
      s.counters[n].nextLevel = none ∧ s.counters[n].stop = false ∧ s.counters[n].record = false) :
    counterEvent ev s =
      (countersIn expired).foldl (fun a (n : Fin 4) => raise s.counters[n].alert .expiry n.val a)
        { s with counters := new } := by
  have hsetup : ∀ n : Fin 4, new[n].setup = s.counters[n].setup := fun n => by
    have h := takeEvent_setup ev s.counters n
    rwa [htake] at h
  have hactions := foldl_expiryActions (s := { s with counters := new }) (l := countersIn expired) hsetup fun n hn =>
    have h := hplain n (mem_countersIn.1 hn)
    ⟨h.1, h.2.2⟩
  simp only [counterEvent, hw, if_true, htake, hactions]
  refine foldl_expiryStop fun n hn => ?_
  rw [foldl_raise_counters]
  exact (congrArg CounterSetup.stop (hsetup n)).trans (hplain n (mem_countersIn.1 hn)).2.1

end Sys2Proof.Machine
end

section
/-! A record offered while the Ring Writer is busy, and the actions of late hits one at a time (R15, R19, R20, R57,
R60): the first two parts of obligation O44. -/

namespace Sys2Proof.Machine

variable {s t : State}

/-! ### An offer while the Ring Writer is busy (R122, R123) -/

theorem append_eq (rs : List Record) (s : State) :
    append rs s = { s with cq := { s.cq with records := s.cq.records ++ rs }, au := (append rs s).au } := by
  unfold append
  dsimp only
  split
  · exact raiseMapped_eq _ _ _
  · rfl

/-- A bundle that fits joins the queue, which takes the pending loss; beside the queue, only the Record Builder and the
Alert Unit change. -/
theorem admitBundle_of_room {b : RecordBody} (h : wordsIn (bundle s b) ≤ s.cq.room false) :
    ∃ a, admitBundle false b s = some a ∧
      a.cq = { s.cq with records := s.cq.records ++ bundle s b, pendingLoss := 0#32 } ∧
      a = { s with cq := a.cq, rbl := a.rbl, au := a.au } := by
  unfold admitBundle
  rw [if_pos h, append_eq]
  exact ⟨_, rfl, rfl, rfl⟩

theorem dropRecord_eq (s : State) :
    dropRecord s =
      { s with cq := { s.cq with lossCount := satAdd s.cq.lossCount 1, pendingLoss := satAdd s.cq.pendingLoss 1 },
               au := (dropRecord s).au } := by
  unfold dropRecord
  dsimp only
  split
  · exact raiseMapped_eq _ _ _
  · rfl

theorem offer_of_room {b : RecordBody} (hd : s.rw.ringDone = false) (hb : s.rw.writer ≠ .idle)
    (h : wordsIn (bundle s b) ≤ s.cq.room false) :
    (offer false b s).cq = { s.cq with records := s.cq.records ++ bundle s b, pendingLoss := 0#32 } ∧
      offer false b s =
        { s with cq := (offer false b s).cq, rbl := (offer false b s).rbl, au := (offer false b s).au } := by
  obtain ⟨a, ha, hcq, heq⟩ := admitBundle_of_room h
  have hbusy : a.rw.writer ≠ .idle := by
    rw [heq]
    exact hb
  rw [offer_of_admitted hd ha, takeHead_of_busy hbusy]
  exact ⟨hcq, heq⟩

theorem offer_of_no_room {b : RecordBody} (hd : s.rw.ringDone = false) (h : ¬ wordsIn (bundle s b) ≤ s.cq.room false) :
    (offer false b s).cq =
        { s.cq with lossCount := satAdd s.cq.lossCount 1, pendingLoss := satAdd s.cq.pendingLoss 1 } ∧
      offer false b s =
        { s with cq := (offer false b s).cq, rbl := (offer false b s).rbl, au := (offer false b s).au } := by
  rw [offer_of_full hd (Nat.lt_of_not_le h), dropRecord_eq]
  exact ⟨rfl, rfl⟩

/-! ### Level requests (R57, R58, R60) -/

theorem levelRequest_of_no_record {v : Fin 4} {c : LevelCause} {i : Nat} (hw : s.sc.session = .watching)
    (h : v = s.sc.level ∨ s.sc.levelRecords = false) :
    levelRequest v c i s = { s with sc := { s.sc with level := v } } := by
  by_cases hv : v = s.sc.level
  · subst hv
    exact levelRequest_same
  · simp [levelRequest, hw, hv, h.resolve_left hv]

theorem levelRequest_of_record {v : Fin 4} {c : LevelCause} {i : Nat} (hw : s.sc.session = .watching)
    (hv : v ≠ s.sc.level) (hr : s.sc.levelRecords = true) :
    levelRequest v c i s = offer false (.level s.sc.level v c i) { s with sc := { s.sc with level := v } } := by
  simp [levelRequest, hw, hv, hr]

/-! ### The late match by what its hits ask for -/

variable {tag : Fin 8} {l : BitVec 16} {fresh : BitVec 4}

/-- The row that a late hit set leaves once its counters are notified (R15, R19). -/
def lateRow (s : State) (tag : Fin 8) (l : BitVec 16) (fresh : BitVec 4) : Row :=
  { lateFields s.entries l s.rows[tag] with notified := s.rows[tag].notified ||| fresh }

/-- A late match without a level request is its notices and its stop, on the state that its hits leave. -/
theorem lateMatch_of_no_level (hl : l = lateSet s tag) (hf : fresh = freshNotices s tag l)
    (hlevel : levelOf s.entries l = none) :
    lateMatch tag s =
      requestStop (stopOf s.entries l)
        (counterEvent { hits := fresh, ticked := false } (s.withHits l tag (lateRow s tag l fresh))) := by
  subst hl hf
  rw [lateMatch_eq, hlevel, requestLevel_none, notify, modifyRow_withHits]
  rfl

/-- A late match without fresh notices is its level request and its stop, on the state that its hits leave. -/
theorem lateMatch_of_no_notice (hl : l = lateSet s tag) (hf : freshNotices s tag l = 0#4) :
    lateMatch tag s =
      requestStop (stopOf s.entries l)
        (requestLevel (levelOf s.entries l) (s.withHits l tag (lateRow s tag l 0#4))) := by
  have hrow : lateRow s tag l 0#4 = lateFields s.entries l s.rows[tag] := by
    rw [lateRow, BitVec.or_zero]
    rfl
  subst hl
  rw [lateMatch_eq, hf, notify_none, hrow]

/-- The LEVEL record of a late hit is offered to the queue as it stood: placed or dropped (R57, R122, R123). -/
theorem lateMatch_of_level_record {n : Fin 16} {v : Fin 4} (hl : l = lateSet s tag) (hf : freshNotices s tag l = 0#4)
    (hstop : stopOf s.entries l = none) (hlevel : levelOf s.entries l = some (n, v)) (hw : s.sc.session = .watching)
    (hv : v ≠ s.sc.level) (hr : s.sc.levelRecords = true) (hd : s.rw.ringDone = false) (hb : s.rw.writer ≠ .idle) :
    (if wordsIn (bundle s (.level s.sc.level v .entry n.val)) ≤ s.cq.room false then
       (lateMatch tag s).cq =
         { s.cq with records := s.cq.records ++ bundle s (.level s.sc.level v .entry n.val), pendingLoss := 0#32 }
     else
       (lateMatch tag s).cq =
         { s.cq with lossCount := satAdd s.cq.lossCount 1, pendingLoss := satAdd s.cq.pendingLoss 1 }) ∧
    lateMatch tag s =
      { s.withHits l tag (lateRow s tag l 0#4) with
        sc := { s.sc with level := v }, cq := (lateMatch tag s).cq, rbl := (lateMatch tag s).rbl,
        au := (lateMatch tag s).au } := by
  have heq := lateMatch_of_no_notice hl hf
  rw [hstop, hlevel, requestStop_none, requestLevel,
    levelRequest_of_record (s := s.withHits l tag (lateRow s tag l 0#4)) hw hv hr] at heq
  rw [heq]
  split
  case isTrue h =>
    exact offer_of_room (s := { s.withHits l tag (lateRow s tag l 0#4) with sc := { s.sc with level := v } }) hd hb h
  case isFalse h =>
    exact offer_of_no_room (s := { s.withHits l tag (lateRow s tag l 0#4) with sc := { s.sc with level := v } }) hd h

end Sys2Proof.Machine
end

section
/-! A read whose data has come from memory stays as it is while the actions of hits, of counters and of stops run: no
slot holds its tag, so that no release reaches its row (R37, R82). The part of obligation O44 about the response rests
on it. -/

namespace Sys2Proof.Machine

variable {s t : State} {tag : Fin 8} {words : List Word}

/-- The row is that of a read that is ISSUED, with the words of its response in its buffer (R37). -/
structure Row.Returned (r : Row) (words : List Word) : Prop where
  state : r.state = .issued
  kind  : r.kind = .read
  beats : r.beats ≤ words.length
  buf   : r.readBuf = words.take r.beats

/-- The row of `tag` is a returned read with no candidate left, and no slot holds its tag. -/
structure State.Matched (s : State) (tag : Fin 8) (words : List Word) : Prop where
  returned : s.rows[tag].Returned words
  late     : s.rows[tag].late = 0#16
  slots    : ∀ n : Fin 2, s.slotTag n ≠ some tag

/-- What a matched read rests on: its row and the slots. -/
theorem State.Matched.congr (h : s.Matched tag words) (hrows : t.rows = s.rows) (hhold : t.hold = s.hold) :
    t.Matched tag words := by
  obtain ⟨hans, hlate, hslots⟩ := h
  refine ⟨hrows ▸ hans, hrows ▸ hlate, fun n => ?_⟩
  rw [State.slotTag, hhold]
  exact hslots n

/-- A read stays matched when its own row keeps its fields and no slot takes its tag. -/
theorem State.Matched.modifyRow (h : s.Matched tag words) (u : Fin 8) {f : Row → Row}
    (hf : u = tag → (f s.rows[tag]).Returned words ∧ (f s.rows[tag]).late = 0#16) :
    (modifyRow u f s).Matched tag words := by
  obtain ⟨hans, hlate, hslots⟩ := h
  by_cases hu : u = tag
  · obtain ⟨hans', hlate'⟩ := hf hu
    subst hu
    exact ⟨by simpa using hans', by simpa using hlate', hslots⟩
  · have hne : u.val ≠ tag.val := fun he => hu (Fin.ext he)
    exact ⟨by simpa [hne] using hans, by simpa [hne] using hlate, hslots⟩

theorem State.Matched.modifyOther (h : s.Matched tag words) {u : Fin 8} (hu : u ≠ tag) (f : Row → Row) :
    (Machine.modifyRow u f s).Matched tag words :=
  h.modifyRow u fun he => absurd he hu

theorem State.Matched.deliverOther (h : s.Matched tag words) {u : Fin 8} (hu : u ≠ tag) (status : RespStatus) :
    (deliverRow u status s).Matched tag words := by
  have hrespond : (respond { status := status, tag := u, data := responseData s.rows[u] status } s).Matched tag words :=
    h.congr rfl rfl
  exact hrespond.modifyOther hu _

theorem State.Matched.queueOther (h : s.Matched tag words) {u : Fin 8} (hu : u ≠ tag) :
    (queueForward u s).Matched tag words := by
  have hqueue : ({ s with fq := s.fq ++ [u] } : State).Matched tag words := h.congr rfl rfl
  exact hqueue.modifyOther hu _

/-! ### Causes, records, the Ring Writer -/

theorem State.Matched.raise (h : s.Matched tag words) (cls : Option (Fin 4)) (k : CauseKind) (i : Nat) :
    (raise cls k i s).Matched tag words := by
  rw [raise_eq]
  exact h.congr rfl rfl

theorem State.Matched.dropRecord (h : s.Matched tag words) : (dropRecord s).Matched tag words := by
  rw [dropRecord_eq]
  exact h.congr rfl rfl

theorem State.Matched.countLost (h : s.Matched tag words) (n : Nat) : (countLost n s).Matched tag words :=
  h.congr rfl rfl

theorem State.Matched.admitBundle {own : Bool} {b : RecordBody} {a : State} (h : s.Matched tag words)
    (ha : admitBundle own b s = some a) : a.Matched tag words := by
  unfold Machine.admitBundle at ha
  split at ha
  · rw [append_eq, Option.some.injEq] at ha
    subst ha
    exact h.congr rfl rfl
  · cases ha

/-! ### Releases and stops -/

/-- A way to deal with a release's record that leaves a matched read matched. -/
abbrev MatchedMake (tag : Fin 8) (words : List Word) (make : HitRecord → State → State) : Prop :=
  ∀ x u, State.Matched u tag words → (make x u).Matched tag words

theorem State.Matched.freeSlot (h : s.Matched tag words) (n : Fin 2) : (freeSlot n s).Matched tag words := by
  obtain ⟨hans, hlate, hslots⟩ := h
  refine ⟨hans, hlate, fun m => ?_⟩
  rw [State.slotTag, Machine.freeSlot]
  by_cases hm : n = m
  · simp [hm]
  · have hne : n.val ≠ m.val := fun he => hm (Fin.ext he)
    simpa [State.slotTag, hne] using hslots m

theorem State.Matched.releaseSlot {make : HitRecord → State → State} (hm : MatchedMake tag words make)
    (h : s.Matched tag words) (n : Fin 2) (d : Disposition) (ws : List Word) :
    (releaseSlot make n d ws s).Matched tag words := by
  unfold Machine.releaseSlot
  split
  · exact h
  · rename_i p hp
    have hne : p.tag ≠ tag := fun he => h.slots n (by rw [State.slotTag, hp, ← he]; rfl)
    have hfree := h.freeSlot n
    have hanswer : State.Matched (if d.answers then Machine.modifyRow p.tag (answerFields d ws) (Machine.freeSlot n s)
        else Machine.freeSlot n s) tag words := by
      split
      · exact hfree.modifyOther hne _
      · exact hfree
    dsimp only
    generalize (if d.answers then Machine.modifyRow p.tag (answerFields d ws) (Machine.freeSlot n s)
        else Machine.freeSlot n s) = u at hanswer ⊢
    have hrecord : State.Matched
        (if u.rows[p.tag].owed && (decide (u.rows[p.tag].kind = .write) || d.answers) then
          clearDebt p.tag (make (buildHit u p.tag d false false) u) else u) tag words := by
      split
      · exact (hm _ _ hanswer).modifyOther hne _
      · exact hanswer
    split
    · exact hrecord.deliverOther hne _
    · exact (hrecord.modifyOther hne _).queueOther hne

theorem State.Matched.releaseBoth {make : HitRecord → State → State} (hm : MatchedMake tag words make)
    (h : s.Matched tag words) : (releaseBoth make s).Matched tag words :=
  (h.releaseSlot hm _ _ _).releaseSlot hm _ _ _

theorem State.Matched.freeze (h : s.Matched tag words) : (freeze s).Matched tag words := by
  obtain ⟨⟨hstate, hkind, hbeats, hbuf⟩, -, hslots⟩ := h
  have hrow : (Machine.freeze s).rows[tag] = { s.rows[tag] with late := 0#16 } := by simp [Machine.freeze, mapRows]
  exact ⟨by rw [hrow]; exact ⟨hstate, hkind, hbeats, hbuf⟩, by rw [hrow], hslots⟩

theorem State.Matched.enterStoppingWith {make : HitRecord → State → State} (hm : MatchedMake tag words make)
    (h : s.Matched tag words) (reason : StopReason) : (enterStoppingWith make reason s).Matched tag words :=
  State.Matched.releaseBoth hm (State.Matched.freeze (h.congr rfl rfl))

theorem State.Matched.ringFinished (h : s.Matched tag words) : (ringFinished s).Matched tag words := by
  have hdone : (discardCounted { s with rw := { s.rw with ringDone := true } }).Matched tag words := h.congr rfl rfl
  unfold Machine.ringFinished
  dsimp only
  split
  · exact (hdone.raise _ _ _).enterStoppingWith (fun _ _ hu => hu.countLost 1) _
  · exact hdone.raise _ _ _

theorem State.Matched.takeHead (h : s.Matched tag words) : (takeHead s).Matched tag words := by
  unfold Machine.takeHead formPlacement
  split
  · split
    · exact h
    · split
      · exact h.congr rfl rfl
      · exact h.congr rfl rfl
      · exact h.ringFinished
  · exact h

theorem State.Matched.offer (h : s.Matched tag words) (own : Bool) (b : RecordBody) :
    (offer own b s).Matched tag words := by
  unfold Machine.offer
  split
  · exact h.countLost 1
  · split
    · rename_i a ha
      exact (h.admitBundle ha).takeHead
    · exact h.dropRecord

theorem State.Matched.makeHit (h : s.Matched tag words) (own : Bool) (x : HitRecord) :
    (makeHit own x s).Matched tag words := by
  unfold Machine.makeHit
  split
  · exact h.offer own _
  · exact h.countLost 1

/-! ### Requests to the Session Controller, counters, hits -/

theorem State.Matched.stopRequest (h : s.Matched tag words) (reason : StopReason) :
    (stopRequest reason s).Matched tag words := by
  unfold Machine.stopRequest
  split
  · exact h.enterStoppingWith (fun _ _ hu => hu.makeHit false _) reason
  · exact h

theorem State.Matched.levelRequest (h : s.Matched tag words) (v : Fin 4) (c : LevelCause) (i : Nat) :
    (levelRequest v c i s).Matched tag words := by
  unfold Machine.levelRequest
  split
  · have hlevel : ({ s with sc := { s.sc with level := v } } : State).Matched tag words := h.congr rfl rfl
    dsimp only
    split
    · exact hlevel.offer _ _
    · exact hlevel
  · exact h

theorem State.Matched.expiryActions (h : s.Matched tag words) (n : Fin 4) : (expiryActions n s).Matched tag words := by
  have hraise := h.raise s.counters[n].alert .expiry n.val
  have hlevel : State.Matched (match s.counters[n].nextLevel with
      | some v => Machine.levelRequest v .counter n.val (Machine.raise s.counters[n].alert .expiry n.val s)
      | none => Machine.raise s.counters[n].alert .expiry n.val s) tag words := by
    split
    · exact hraise.levelRequest _ _ _
    · exact hraise
  unfold Machine.expiryActions
  dsimp only
  split
  · exact hlevel.offer _ _
  · exact hlevel

theorem State.Matched.expiryStop (h : s.Matched tag words) (n : Fin 4) : (expiryStop n s).Matched tag words := by
  unfold Machine.expiryStop
  split
  · exact h.stopRequest _
  · exact h

/-- A fold of operations that leave a matched read matched leaves it matched. -/
theorem State.Matched.foldl {α : Type} {f : State → α → State}
    (hf : ∀ u x, State.Matched u tag words → (f u x).Matched tag words) (l : List α) (h : s.Matched tag words) :
    (l.foldl f s).Matched tag words := by
  induction l generalizing s with
  | nil => exact h
  | cons x l ih => exact ih (hf s x h)

theorem State.Matched.counterEvent (h : s.Matched tag words) (ev : CounterEvent) :
    (counterEvent ev s).Matched tag words := by
  unfold Machine.counterEvent
  split
  · refine State.Matched.foldl (fun _ n hu => hu.expiryStop n) _ ?_
    exact State.Matched.foldl (fun _ n hu => hu.expiryActions n) _ (h.congr rfl rfl)
  · exact h

theorem State.Matched.notify (h : s.Matched tag words) (notices : BitVec 4) :
    (notify tag notices s).Matched tag words := by
  obtain ⟨⟨hstate, hkind, hbeats, hbuf⟩, hlate, -⟩ := id h
  exact State.Matched.counterEvent (h.modifyRow tag fun _ => ⟨⟨hstate, hkind, hbeats, hbuf⟩, hlate⟩) _

theorem State.Matched.requestLevel (h : s.Matched tag words) (level : Option (Fin 16 × Fin 4)) :
    (requestLevel level s).Matched tag words := by
  unfold Machine.requestLevel
  split
  · exact h.levelRequest _ _ _
  · exact h

theorem State.Matched.requestStop (h : s.Matched tag words) (stop : Option (Fin 16)) :
    (requestStop stop s).Matched tag words := by
  unfold Machine.requestStop
  split
  · exact h.stopRequest _
  · exact h

/-- The late match leaves a returned read matched, whatever its hits ask for (R14, R15). -/
theorem matched_lateMatch (hans : s.rows[tag].Returned words) (hslots : ∀ n : Fin 2, s.slotTag n ≠ some tag) :
    (lateMatch tag s).Matched tag words := by
  obtain ⟨hstate, hkind, hbeats, hbuf⟩ := hans
  have hhits : ∀ l, (s.withHits l tag (lateFields s.entries l s.rows[tag])).Matched tag words := fun l =>
    ⟨by rw [withHits_row]; exact ⟨hstate, hkind, hbeats, hbuf⟩, by rw [withHits_row]; rfl, hslots⟩
  rw [lateMatch_eq]
  exact ((State.Matched.requestLevel (hhits _) _).notify _).requestStop _

end Sys2Proof.Machine
end

section
/-! The response to an ISSUED read: the late match first, then the record and the delivery (R37), and obligation O44. -/

namespace Sys2Proof.Machine

variable {s t : State} {tag : Fin 8} {words : List Word}

/-! ### The response to an ISSUED read (R37) -/

theorem exec_memoryResponse (m : MemResponse) (s : State) : exec (.memoryResponse m) s = execMemoryResponse m s := rfl

/-- The words returned are put into the read data buffer (R37). -/
def State.withWords (s : State) (tag : Fin 8) (words : List Word) : State :=
  { s with rows := s.rows.set tag { s.rows[tag] with readBuf := words.take s.rows[tag].beats } }

theorem withWords_eq (s : State) (tag : Fin 8) (words : List Word) :
    s.withWords tag words = modifyRow tag (fun r => { r with readBuf := words.take s.rows[tag].beats }) s := rfl

theorem withWords_row (s : State) (tag : Fin 8) (words : List Word) :
    (s.withWords tag words).rows[tag] = { s.rows[tag] with readBuf := words.take s.rows[tag].beats } := by
  simp [State.withWords]

/-- The OKAY response of an ISSUED read: its words, the late match, the record decision with the delivery. -/
theorem exec_memoryResponse_of_issued (hstate : s.rows[tag].state = .issued) (hkind : s.rows[tag].kind = .read)
    (hbeats : s.rows[tag].beats ≤ words.length) :
    exec (.memoryResponse { marker := .forwarded, tag := tag, status := .okay, data := words }) s =
      .next (finish (settleRead tag .okay (lateMatch tag (s.withWords tag words)))) := by
  simp only [exec_memoryResponse, execMemoryResponse, forwardedResponse, hstate, hkind, readResponse, hbeats, and_self,
    if_true, withWords_eq]

/-- Of a matched read, nothing but the record decision and the delivery is left. -/
theorem exec_memoryResponse_of_matched (h : s.Matched tag words) :
    exec (.memoryResponse { marker := .forwarded, tag := tag, status := .okay, data := words }) s =
      .next (finish (settleRead tag .okay s)) := by
  obtain ⟨⟨hstate, hkind, hbeats, hbuf⟩, hlate, -⟩ := h
  have hwords : s.withWords tag words = s := by
    rw [withWords_eq]
    exact modifyRow_of_eq (by rw [← hbuf])
  rw [exec_memoryResponse_of_issued hstate hkind hbeats, hwords, lateMatch_of_no_candidates hlate]

/-- No slot holds the tag of a row that is not PARKED (R82). -/
theorem slotTag_ne_of_state (h : s.pathSound) (hp : s.rows[tag].state ≠ .parked) (n : Fin 2) :
    s.slotTag n ≠ some tag := by
  obtain ⟨-, ⟨hparked, -⟩, -⟩ := h
  have hnone := mt (hparked tag).2 hp
  rw [not_or] at hnone
  match n with
  | 0 => exact hnone.1
  | 1 => exact hnone.2

/-- The late match on the words returned leaves the read matched. -/
theorem matched_of_response (h : s.pathSound) (hstate : s.rows[tag].state = .issued) (hkind : s.rows[tag].kind = .read)
    (hbeats : s.rows[tag].beats ≤ words.length) : (lateMatch tag (s.withWords tag words)).Matched tag words := by
  refine matched_lateMatch ?_ fun n => ?_
  · rw [withWords_row]
    exact ⟨hstate, hkind, hbeats, rfl⟩
  · exact slotTag_ne_of_state h (by rw [hstate]; decide) n

/-! ### The record decision and the delivery (R37, R38, R122) -/

theorem settleRead_of_no_debt {status : RespStatus} (h : s.rows[tag].owed = false) :
    settleRead tag status s = deliverRow tag status s := by
  simp only [settleRead, h]
  rfl

/-- The record of a read that owes one and whose record fits is placed, and the response delivered. -/
theorem settleRead_of_room {status : RespStatus} {a : State} (howed : s.rows[tag].owed = true)
    (hwait : s.mayWait = true) (ha : admitBundle false
      (.hit (buildHit s tag s.rows[tag].carry (decide (status = .error)) s.rows[tag].holdRefused)) s = some a)
    (hb : a.rw.writer ≠ .idle) : settleRead tag status s = deliverRow tag status (clearDebt tag a) := by
  simp only [settleRead, howed, hwait, ha, if_true, takeHead_of_busy hb]

theorem deliverRow_eq (tag : Fin 8) (status : RespStatus) (s : State) :
    deliverRow tag status s =
      { s with rows := s.rows.set tag Row.empty,
               rqp := { s.rqp with ready := s.rqp.ready ++
                 [{ status := status, tag := tag, data := responseData s.rows[tag] status }] } } := rfl

/-! ### Late hits that ask for nothing beyond totals, causes and a record -/

/-- The row of a read whose words met the patterns of the entries in `l` (R15, R37). -/
def hitRow (s : State) (tag : Fin 8) (words : List Word) (l : BitVec 16) : Row :=
  lateFields s.entries l { s.rows[tag] with readBuf := words.take s.rows[tag].beats }

theorem withHits_withWords (l : BitVec 16) (x : Row) :
    (s.withWords tag words).withHits l tag x = s.withHits l tag x := by
  have hau : (raiseHits (alertsOf s.entries l) (s.withWords tag words)).au = (raiseHits (alertsOf s.entries l) s).au :=
    raiseHits_au_congr _ rfl
  have hrows : (s.withWords tag words).rows.set tag x = s.rows.set tag x := by simp [State.withWords]
  rw [State.withHits, hrows]
  change { s with rows := _, totals := _, au := (raiseHits (alertsOf s.entries l) (s.withWords tag words)).au } = _
  rw [hau]
  rfl

/-- Such a late match leaves the hits' totals and causes, and their row. -/
theorem lateMatch_withWords_of_plain {l : BitVec 16} (hl : l = lateSet (s.withWords tag words) tag)
    (hlinks : linksOf s.entries l = 0#4) (hlevel : levelOf s.entries l = none) (hstop : stopOf s.entries l = none) :
    lateMatch tag (s.withWords tag words) = s.withHits l tag (hitRow s tag words l) := by
  have hplain := lateMatch_of_plain (s := s.withWords tag words) (tag := tag) (hl ▸ hlinks) (hl ▸ hlevel) (hl ▸ hstop)
  rw [hplain, ← hl, withHits_withWords, withWords_row]
  rfl

/-- The HIT record of a read that late hits have marked carries all its hits (R15, R107 to R110). -/
theorem buildHit_of_hitRow {l : BitVec 16} (hkind : s.rows[tag].kind = .read) (h : t.rows[tag] = hitRow s tag words l)
    (htb : t.tb = s.tb) :
    buildHit t tag t.rows[tag].carry (decide (RespStatus.okay = .error)) t.rows[tag].holdRefused =
      { address := s.rows[tag].address, hitSet := s.rows[tag].hits ||| l, tag := tag, kind := .read,
        size := s.rows[tag].size, beats := s.rows[tag].beats, level := s.rows[tag].arrivalLevel,
        disposition := s.rows[tag].carry,
        late := ((s.rows[tag].hits ||| l) &&& ~~~s.rows[tag].early) != 0#16, memError := false,
        holdRefused := s.rows[tag].holdRefused, losslessTimeout := false,
        elapsed := min 65535 (s.tb.ticks - s.rows[tag].takingTime).toNat,
        data := match mergedOption s.entries l s.rows[tag].option with
          | .none => []
          | .first => (words.take s.rows[tag].beats).take 1
          | .all => words.take s.rows[tag].beats } := by
  have hdata : recordData (hitRow s tag words l) =
      match mergedOption s.entries l s.rows[tag].option with
        | .none => []
        | .first => (words.take s.rows[tag].beats).take 1
        | .all => words.take s.rows[tag].beats := by
    simp only [recordData, hitRow, lateFields, hkind]
    cases mergedOption s.entries l s.rows[tag].option with
    | none | first => rfl
    | all => exact List.take_take.trans (by rw [Nat.min_self])
  have hlate : decide ((s.rows[tag].hits ||| l) &&& ~~~s.rows[tag].early ≠ 0#16) =
      (((s.rows[tag].hits ||| l) &&& ~~~s.rows[tag].early) != 0#16) := by
    rw [Bool.eq_iff_iff, decide_eq_true_eq, bne_iff_ne]
  rw [buildHit, h, hdata, elapsedSince, htb, ← hlate]
  simp only [hitRow, lateFields, hkind]
  rfl

theorem finish_of_rest (h : s.settled) (hg : s.noGrant = true) : finish s = s := by
  rw [finish_of_settled h, arbitrate_of_noGrant hg]

/-- Late hits that leave the read without a debt: the response is delivered. -/
theorem finish_settleRead_of_no_debt {l : BitVec 16} (h : s.atRest) (hidle : s.rqp.acceptance = .idle)
    (hkind : s.rows[tag].kind = .read) (howed : s.rows[tag].owed = false) (howes : owesRecord s.entries l = false) :
    finish (settleRead tag .okay (s.withHits l tag (hitRow s tag words l))) =
      { s.withHits l tag Row.empty with
        rqp := { s.rqp with ready := s.rqp.ready ++
          [{ status := .okay, tag := tag, data := words.take s.rows[tag].beats }] } } := by
  obtain ⟨hwait, hresp, hstop, hgrant⟩ := h
  have hdebt : (s.withHits l tag (hitRow s tag words l)).rows[tag].owed = false := by
    rw [withHits_row, hitRow, lateFields, howed, howes]
    rfl
  have hdata : responseData (hitRow s tag words l) .okay = words.take s.rows[tag].beats := by
    simp only [responseData, hitRow, lateFields, hkind]
  rw [settleRead_of_no_debt hdebt, deliverRow_eq, withHits_row, hdata]
  simp only [State.withHits, Vector.set_set]
  refine finish_of_rest (settled_of_row ⟨hwait, hresp, hstop⟩ hidle rfl rfl rfl rfl ?_ (by decide)) hgrant
  exact howed.symm

/-- Late hits by which the read owes a record that fits: it is placed, and the response is delivered. -/
theorem finish_settleRead_of_room {l : BitVec 16} {h : HitRecord} (hrest : s.atRest) (hidle : s.rqp.acceptance = .idle)
    (hkind : s.rows[tag].kind = .read) (hw : s.sc.session = .watching) (hd : s.rw.ringDone = false)
    (hb : s.rw.writer ≠ .idle) (howed : s.rows[tag].owed = true ∨ owesRecord s.entries l = true)
    (hh : buildHit (s.withHits l tag (hitRow s tag words l)) tag (hitRow s tag words l).carry
      (decide (RespStatus.okay = .error)) (hitRow s tag words l).holdRefused = h)
    (hroom : wordsIn (bundle s (.hit h)) ≤ s.cq.room false) :
    ∃ u : State, finish (settleRead tag .okay (s.withHits l tag (hitRow s tag words l))) = u ∧
      u.cq = { s.cq with records := s.cq.records ++ bundle s (.hit h), pendingLoss := 0#32 } ∧
      u.rows = s.rows.set tag Row.empty ∧ u.totals = (countHits l s).totals ∧
      u.rqp = { s.rqp with
        ready := s.rqp.ready ++ [{ status := .okay, tag := tag, data := words.take s.rows[tag].beats }] } ∧
      u = { s with cq := u.cq, rows := u.rows, totals := u.totals, rqp := u.rqp, rbl := u.rbl, au := u.au } := by
  obtain ⟨-, -, -, hgrant⟩ := hrest
  obtain ⟨a, ha, hcq, heq⟩ :=
    admitBundle_of_room (s := s.withHits l tag (hitRow s tag words l)) (b := .hit h) hroom
  have hrow := withHits_row (s := s) l tag (hitRow s tag words l)
  have hdebt : (s.withHits l tag (hitRow s tag words l)).rows[tag].owed = true := by
    rw [hrow, hitRow, lateFields]
    simpa only [Bool.or_eq_true] using howed
  have hwait : s.mayWait = true := by rw [State.mayWait, hw, hd]; rfl
  have hbusy : a.rw.writer ≠ .idle := by
    rw [heq]
    exact hb
  have hdata : responseData { hitRow s tag words l with owed := false } .okay = words.take s.rows[tag].beats := by
    simp only [responseData, hitRow, lateFields, hkind]
  have hsettle : settleRead tag .okay (s.withHits l tag (hitRow s tag words l)) =
      { s with rows := s.rows.set tag Row.empty, totals := (countHits l s).totals, cq := a.cq, rbl := a.rbl, au := a.au,
               rqp := { s.rqp with ready := s.rqp.ready ++
                 [{ status := .okay, tag := tag, data := words.take s.rows[tag].beats }] } } := by
    rw [settleRead_of_room hdebt hwait (by rw [hrow, hh, ha]) hbusy, ← hdata, heq]
    simp [deliverRow_eq, clearDebt, modifyRow, State.withHits]
  have hsettled : (settleRead tag .okay (s.withHits l tag (hitRow s tag words l))).settled := by
    rw [hsettle]
    refine ⟨by simp [State.waitStands, hidle], .inl hwait, fun hstop => ?_⟩
    exact absurd (hw.symm.trans hstop) (by decide)
  refine ⟨_, finish_of_rest hsettled (by rw [hsettle]; exact hgrant), ?_⟩
  rw [hsettle]
  exact ⟨hcq, rfl, rfl, rfl, rfl⟩

end Sys2Proof.Machine

namespace Sys2Proof.Proofs.WatchEntries

open Sys2Proof.Machine

/-- Settles O44: the late hit set and its plain effects; its notices, level and stop; the response, whose late match
leaves a read with no candidate; and the two cases in full. -/
theorem lateMatchCriteria : Obligations.LateMatchCriteria := by
  refine ⟨?hits, ?actions, ?response, ?cases⟩
  case hits =>
    rintro tag s l rfl
    refine ⟨lateSet_getLsbD tag, fun hlinks hlevel hstop => ?_⟩
    rw [lateMatch_of_plain hlinks hlevel hstop, ← raiseHits_countHits_modifyRow]
    rfl
  case actions =>
    intro tag s u l fresh x hl hfresh hx hu
    have hfresh := freshNotices_unique hfresh
    have hhits : u = s.withHits l tag (lateRow s tag l fresh) := by
      rw [hu, hx, withHits_eq]
      rfl
    refine ⟨?notices, ?level, ?stop⟩
    case notices =>
      intro new expired hw hlevel hstop htake hplain
      rw [lateMatch_of_no_level hl hfresh hlevel, hstop, requestStop_none, hhits]
      exact counterEvent_of_causes (s := s.withHits l tag (lateRow s tag l fresh)) hw htake hplain
    case level =>
      intro n v hnone hstop hlevel hw
      subst hnone
      refine ⟨fun hv => ?_, fun hv hr hd hb => ?_⟩
      · rw [lateMatch_of_no_notice hl hfresh.symm, hstop, hlevel, requestStop_none, hhits]
        exact levelRequest_of_no_record (s := s.withHits l tag (lateRow s tag l 0#4)) hw hv
      · rw [hhits]
        exact lateMatch_of_level_record hl hfresh.symm hstop hlevel hw hv hr hd hb
    case stop =>
      intro n hnone hlevel hstop
      subst hnone
      rw [lateMatch_of_no_notice hl hfresh.symm, hlevel, hstop, hhits]
      rfl
  case response =>
    rintro tag words m s t rfl hsound hstate hkind hbeats rfl
    have hmatched := matched_of_response hsound hstate hkind hbeats
    refine ⟨?_, hmatched.late⟩
    rw [exec_memoryResponse_of_issued hstate hkind hbeats]
    exact (exec_memoryResponse_of_matched hmatched).symm
  case cases =>
    rintro tag words l m s t rfl hrest hidle hstate hkind hbeats rfl hl hlinks hlevel hstop
    rw [exec_memoryResponse_of_issued hstate hkind hbeats, lateMatch_withWords_of_plain hl hlinks hlevel hstop]
    refine ⟨fun howed howes => ?_, fun h hw hd hb howed hh hroom => ?_⟩
    · rw [finish_settleRead_of_no_debt hrest hidle hkind howed howes, withHits_eq]
    · have hrow := withHits_row (s := s) l tag (hitRow s tag words l)
      have hbuilt : buildHit (s.withHits l tag (hitRow s tag words l)) tag (hitRow s tag words l).carry
          (decide (RespStatus.okay = .error)) (hitRow s tag words l).holdRefused = h := by
        have hbuild := buildHit_of_hitRow hkind hrow rfl
        rw [hrow] at hbuild
        rw [hh]
        exact hbuild
      obtain ⟨u, hu, hfields⟩ := finish_settleRead_of_room hrest hidle hkind hw hd hb howed hbuilt hroom
      exact ⟨u, congrArg _ hu, hfields⟩

end Sys2Proof.Proofs.WatchEntries
end

section
/-! The path while an operation is in progress: the invariant of O58 with what the operation has in hand. -/

namespace Sys2Proof.Machine

variable {s t : State}

/-! ### The path while an operation is in progress -/

/-- What an operation in progress has in hand: the acceptance state it found, the rows taken out of their places, each
with the state it shows, and the slots that it has yet to release. -/
structure InHand where
  port : Acceptance
  row  : Fin 8 → Option RowState
  slot : Fin 2 → Prop

variable {k : InHand}

/-- The row of `tag`, which shows `st`, is in hand. -/
def InHand.take (k : InHand) (tag : Fin 8) (st : RowState) : InHand :=
  { k with row := Function.update k.row tag (some st) }

/-- The row of `tag` is in its place. -/
def InHand.drop (k : InHand) (tag : Fin 8) : InHand := { k with row := Function.update k.row tag none }

/-- Slot `n` needs no release any more. -/
def InHand.shut (k : InHand) (n : Fin 2) : InHand := { k with slot := fun m => k.slot m ∧ m ≠ n }

theorem InHand.take_same {tag : Fin 8} {st : RowState} (h : k.row tag = some st) : k.take tag st = k := by
  rw [InHand.take, ← h, Function.update_eq_self]

theorem InHand.drop_same {tag : Fin 8} (h : k.row tag = none) : k.drop tag = k := by
  rw [InHand.drop, ← h, Function.update_eq_self]

@[simp] theorem InHand.drop_take (k : InHand) (tag : Fin 8) (st : RowState) :
    (k.take tag st).drop tag = k.drop tag := by
  simp [InHand.drop, InHand.take]

@[simp] theorem InHand.take_take (k : InHand) (tag : Fin 8) (st st' : RowState) :
    (k.take tag st).take tag st' = k.take tag st' := by
  simp [InHand.take]

theorem InHand.take_row (k : InHand) (tag u : Fin 8) (st : RowState) :
    (k.take tag st).row u = if u = tag then some st else k.row u := Function.update_apply ..

theorem InHand.drop_row (k : InHand) (tag u : Fin 8) : (k.drop tag).row u = if u = tag then none else k.row u :=
  Function.update_apply ..

@[simp] theorem InHand.take_row_same (k : InHand) (tag : Fin 8) (st : RowState) :
    (k.take tag st).row tag = some st := by
  simp [InHand.take]

/-- The fields of one row agree with one another (R28, R29), and its record has at most eight words of data (R104). -/
structure Row.Sound (r : Row) : Prop where
  wait  : r.state = .responding ↔ r.wait.isSome = true
  empty : r.state = .empty → r = Row.empty
  beats : r.beats ∈ [1, 2, 4, 8]
  data  : ∀ w, r.wait = some w → w.record.data.length ≤ 8

/-- The length of a record (R104). -/
def Record.fits (r : Record) : Prop := 1 ≤ r.length ∧ r.length ≤ 12

/-- A slot's copy of the fields of a row (R82). -/
def Parked.copies (p : Parked) (r : Row) : Prop :=
  p.kind = r.kind ∧ p.address = r.address ∧ p.size = r.size ∧ p.beats = r.beats ∧ p.writeData = r.writeData

/-- The path is sound but for what `k` has in hand: a row in hand is in no other place, and a slot outside WATCHING is
one that is yet to be released. -/
structure State.SoundBut (k : InHand) (s : State) : Prop where
  port     : s.rqp.acceptance = k.port
  nodup    : s.fq.Nodup
  queued   : ∀ t : Fin 8, t ∈ s.fq ↔ s.rows[t].state = .queued
  hand     : ∀ (t : Fin 8) (st : RowState), k.row t = some st →
    s.rows[t].state = st ∧ st ≠ .queued ∧ ∀ (n : Fin 2) (p : Parked), s.hold.slots[n] = some p → p.tag ≠ t
  parked   : ∀ t : Fin 8, s.rows[t].state = .parked ↔
    (k.row t = some .parked ∨ ∃ (n : Fin 2) (p : Parked), s.hold.slots[n] = some p ∧ p.tag = t)
  deciding : ∀ t : Fin 8, s.rows[t].state = .deciding → k.row t = some .deciding
  apart    : ∀ (n m : Fin 2) (p q : Parked), s.hold.slots[n] = some p → s.hold.slots[m] = some q →
    p.tag = q.tag ∨ p.ticket = q.ticket → n = m
  inStep   : ∀ (n : Fin 2) (p : Parked), s.hold.slots[n] = some p → p.copies s.rows[p.tag]
  session  : s.sc.session ≠ .watching → ∀ (n : Fin 2) (p : Parked), s.hold.slots[n] = some p → k.slot n
  rows     : ∀ t : Fin 8, s.rows[t].Sound
  records  : ∀ r ∈ s.cq.records, r.fits

/-- The path rests on the acceptance state, the rows, the Forward Queue, the slots, the session and the queue alone. -/
theorem State.SoundBut.congr (h : s.SoundBut k) (hport : t.rqp.acceptance = s.rqp.acceptance) (hrows : t.rows = s.rows)
    (hfq : t.fq = s.fq) (hslots : t.hold.slots = s.hold.slots) (hsession : t.sc.session = s.sc.session)
    (hrecords : ∀ r ∈ t.cq.records, r ∈ s.cq.records ∨ r.fits) : t.SoundBut k := by
  obtain ⟨port, nodup, queued, hand, parked, deciding, apart, inStep, session, rows, records⟩ := h
  constructor
  case records => exact fun r hr => (hrecords r hr).elim (records r) id
  all_goals simp only [hport, hrows, hfq, hslots, hsession]; assumption

theorem row_set (v : Vector Row 8) (tag u : Fin 8) (q : Row) : (v.set tag q)[u] = if u = tag then q else v[u] := by
  simp [Vector.getElem_set, Fin.ext_iff, eq_comm]

theorem slot_set (v : Vector (Option Parked) 2) (n m : Fin 2) (x : Option Parked) :
    (v.set n x)[m] = if m = n then x else v[m] := by
  simp [Vector.getElem_set, Fin.ext_iff, eq_comm]

/-! ### Rows in and out of hand -/

/-- A row in hand may take any fields that agree with one another, and any state but QUEUED. -/
theorem State.SoundBut.setRow (h : s.SoundBut k) {tag : Fin 8} {st : RowState} (ht : k.row tag = some st) {q : Row}
    (hq : q.Sound) (hst : q.state ≠ .queued) :
    ({ s with rows := s.rows.set tag q } : State).SoundBut (k.take tag q.state) := by
  obtain ⟨port, nodup, queued, hand, parked, deciding, apart, inStep, session, rows, records⟩ := h
  obtain ⟨hstate, hnq, hslot⟩ := hand tag st ht
  constructor
  case queued =>
    intro u
    rw [queued u, row_set]
    split
    case isTrue he => rw [he, hstate, iff_false_left hnq]; exact hst
    case isFalse => rfl
  case hand =>
    intro u st' hu
    rw [InHand.take_row] at hu
    rw [row_set]
    split at hu
    case isTrue he =>
      cases hu
      rw [he, if_pos rfl]
      exact ⟨rfl, hst, hslot⟩
    case isFalse he =>
      rw [if_neg he]
      exact hand u st' hu
  case parked =>
    intro u
    rw [row_set, InHand.take_row]
    split
    case isTrue he =>
      rw [he, or_iff_left, Option.some.injEq]
      rintro ⟨n, p, hp, hpt⟩
      exact hslot n p hp hpt
    case isFalse he => exact parked u
  case deciding =>
    intro u
    rw [row_set, InHand.take_row]
    split
    case isTrue he => exact congrArg some
    case isFalse he => exact deciding u
  case inStep =>
    intro n p hp
    rw [row_set, if_neg (hslot n p hp)]
    exact inStep n p hp
  case rows =>
    intro u
    rw [row_set]
    split
    · exact hq
    · exact rows u
  all_goals assumption

/-- A row that is neither QUEUED nor PARKED may be taken in hand. -/
theorem State.SoundBut.takeRow (h : s.SoundBut k) {tag : Fin 8} {st : RowState} (hst : s.rows[tag].state = st)
    (hq : st ≠ .queued) (hp : st ≠ .parked) : s.SoundBut (k.take tag st) := by
  obtain ⟨port, nodup, queued, hand, parked, deciding, apart, inStep, session, rows, records⟩ := h
  constructor
  case hand =>
    intro u st' hu
    rw [InHand.take_row] at hu
    split at hu
    case isTrue he =>
      cases hu
      subst he
      exact ⟨hst, hq, fun n p hn he => hp (hst ▸ (parked u).2 (.inr ⟨n, p, hn, he⟩))⟩
    case isFalse => exact hand u st' hu
  case parked =>
    intro u
    rw [parked u, InHand.take_row]
    split
    case isTrue he =>
      subst he
      have hnot : ¬ s.rows[u].state = .parked := hst ▸ hp
      rw [parked u, not_or] at hnot
      simp only [hnot.1, false_or, Option.some.injEq, hp]
    case isFalse => rfl
  case deciding =>
    intro u hu
    rw [InHand.take_row]
    split
    case isTrue he => rw [← hst, ← he, hu]
    case isFalse => exact deciding u hu
  all_goals assumption

/-- A row in hand that is neither DECIDING nor PARKED is in its place. -/
theorem State.SoundBut.putDown (h : s.SoundBut k) {tag : Fin 8} {st : RowState} (ht : k.row tag = some st)
    (hd : st ≠ .deciding) (hp : st ≠ .parked) : s.SoundBut (k.drop tag) := by
  obtain ⟨port, nodup, queued, hand, parked, deciding, apart, inStep, session, rows, records⟩ := h
  obtain ⟨hstate, -, -⟩ := hand tag st ht
  constructor
  case hand =>
    intro u st' hu
    rw [InHand.drop_row] at hu
    split at hu
    · cases hu
    · exact hand u st' hu
  case parked =>
    intro u
    rw [parked u, InHand.drop_row]
    split
    case isTrue he => simp only [he, ht, Option.some.injEq, hp, reduceCtorEq]
    case isFalse => rfl
  case deciding =>
    intro u hu
    rw [InHand.drop_row, if_neg]
    · exact deciding u hu
    · rintro rfl
      exact hd (hstate.symm.trans hu)
  all_goals assumption

/-- A row in hand that is not RESPONDING joins the Forward Queue (R35). -/
theorem State.SoundBut.queueForward (h : s.SoundBut k) {tag : Fin 8} {st : RowState} (ht : k.row tag = some st)
    (hr : st ≠ .responding) : (queueForward tag s).SoundBut (k.drop tag) := by
  obtain ⟨port, nodup, queued, hand, parked, deciding, apart, inStep, session, rows, records⟩ := h
  obtain ⟨hstate, hnq, hslot⟩ := hand tag st ht
  have hnot : tag ∉ s.fq := fun hm => hnq (hstate ▸ (queued tag).1 hm)
  have hrow : ∀ u, (Machine.queueForward tag s).rows[u] =
      if u = tag then { s.rows[tag] with state := .queued } else s.rows[u] := fun u => row_set ..
  constructor
  case nodup => exact List.Nodup.append nodup (List.nodup_singleton tag) (by simpa using hnot)
  case queued =>
    intro u
    rw [hrow, queueForward_fq, List.mem_append, List.mem_singleton, queued u]
    split
    case isTrue he => simp [he]
    case isFalse he => rw [or_iff_left he]
  case hand =>
    intro u st' hu
    rw [InHand.drop_row] at hu
    rw [hrow]
    split at hu
    case isTrue => cases hu
    case isFalse he =>
      rw [if_neg he]
      exact hand u st' hu
  case parked =>
    intro u
    rw [hrow, InHand.drop_row]
    split
    case isTrue he =>
      refine iff_of_false (by simp) ?_
      rw [he]
      rintro (hn | ⟨n, p, hn, hpt⟩)
      · cases hn
      · exact hslot n p hn hpt
    case isFalse he => exact parked u
  case deciding =>
    intro u
    rw [hrow, InHand.drop_row]
    split
    case isTrue he => simp
    case isFalse he => exact deciding u
  case inStep =>
    intro n p hp
    rw [hrow, if_neg (hslot n p hp)]
    exact inStep n p hp
  case rows =>
    intro u
    rw [hrow]
    obtain ⟨wait, -, beats, data⟩ := rows tag
    split
    · refine ⟨iff_of_false (by simp) ?_, by simp, beats, data⟩
      rw [← wait, hstate]
      exact hr
    · exact rows u
  all_goals assumption

end Sys2Proof.Machine
end

section
/-! Slots and rows: what parking, releasing, queueing, granting and answering leave of the path (R28, R35, R82, R83). -/

namespace Sys2Proof.Machine

variable {s t : State} {k : InHand}

/-! ### Slots -/

theorem State.SoundBut.withSlot (h : s.SoundBut k) {slot : Fin 2 → Prop}
    (hs : s.sc.session ≠ .watching → ∀ (n : Fin 2) (p : Parked), s.hold.slots[n] = some p → slot n) :
    s.SoundBut { k with slot := slot } := by
  obtain ⟨port, nodup, queued, hand, parked, deciding, apart, inStep, session, rows, records⟩ := h
  constructor
  all_goals assumption

theorem freeSlot_slots (n m : Fin 2) (s : State) :
    (freeSlot n s).hold.slots[m] = if m = n then none else s.hold.slots[m] := slot_set ..

/-- A slot becomes FREE, and its row is in hand (R82, R88). -/
theorem State.SoundBut.freeSlot (h : s.SoundBut k) {n : Fin 2} {p : Parked} (hp : s.hold.slots[n] = some p) :
    (freeSlot n s).SoundBut ((k.take p.tag .parked).shut n) := by
  obtain ⟨port, nodup, queued, hand, parked, deciding, apart, inStep, session, rows, records⟩ := h
  have hslot : ∀ (m : Fin 2) (q : Parked), (Machine.freeSlot n s).hold.slots[m] = some q ↔
      m ≠ n ∧ s.hold.slots[m] = some q := fun m q => by
    rw [freeSlot_slots]
    split
    case isTrue he => simp [he]
    case isFalse he => simp [he]
  have hstate : s.rows[p.tag].state = .parked := (parked p.tag).2 (.inr ⟨n, p, hp, rfl⟩)
  constructor
  case hand =>
    intro u st hu
    simp only [InHand.shut, InHand.take_row] at hu
    split at hu
    case isTrue he =>
      cases hu
      refine ⟨he ▸ hstate, by decide, fun m q hq hqt => ?_⟩
      obtain ⟨hm, hq⟩ := (hslot m q).1 hq
      exact hm (apart m n q p hq hp (.inl (hqt.trans he)))
    case isFalse =>
      obtain ⟨hst, hnq, hnone⟩ := hand u st hu
      exact ⟨hst, hnq, fun m q hq => hnone m q ((hslot m q).1 hq).2⟩
  case parked =>
    intro u
    simp only [InHand.shut, InHand.take_row]
    split
    case isTrue he => exact iff_of_true (he ▸ hstate) (.inl rfl)
    case isFalse he =>
      refine (parked u).trans (or_congr_right ⟨?_, ?_⟩)
      · rintro ⟨m, q, hq, hqt⟩
        refine ⟨m, q, (hslot m q).2 ⟨?_, hq⟩, hqt⟩
        rintro rfl
        cases hp.symm.trans hq
        exact he hqt.symm
      · rintro ⟨m, q, hq, hqt⟩
        exact ⟨m, q, ((hslot m q).1 hq).2, hqt⟩
  case deciding =>
    intro u hu
    simp only [InHand.shut, InHand.take_row]
    split
    case isTrue he =>
      rw [he] at hu
      cases hstate.symm.trans hu
    case isFalse => exact deciding u hu
  case apart =>
    intro m m' q q' hq hq'
    exact apart m m' q q' ((hslot m q).1 hq).2 ((hslot m' q').1 hq').2
  case inStep => exact fun m q hq => inStep m q ((hslot m q).1 hq).2
  case session =>
    intro hw m q hq
    obtain ⟨hm, hq⟩ := (hslot m q).1 hq
    exact ⟨session hw m q hq, hm⟩
  all_goals assumption

/-- A slot that is FREE needs no release. -/
theorem State.SoundBut.shut (h : s.SoundBut k) {n : Fin 2} (hn : s.hold.slots[n] = none) : s.SoundBut (k.shut n) := by
  refine h.withSlot fun hw m p hp => ⟨h.session hw m p hp, ?_⟩
  rintro rfl
  cases hn.symm.trans hp

/-- The ticket of a park is not the other slot's (R83). -/
theorem nextTicket_ne {x : HoldUnit} {n m : Fin 2} {p : Parked} (hm : x.slots[m] = some p) (hne : m ≠ n) :
    p.ticket ≠ nextTicket x n := by
  have hother : ∀ a b : Fin 2, b ≠ a → b = 1 - a := by decide
  obtain rfl := hother n m hne
  simp only [nextTicket, hm]
  split
  case isTrue he =>
    rw [he]
    generalize x.ticket + 1#8 = ticket
    bv_omega
  case isFalse he => exact he

/-- A PARKED row in hand is put into a FREE slot, with a ticket that the other slot does not hold (R82, R83). -/
theorem State.SoundBut.fillSlot (h : s.SoundBut k) {p : Parked} (ht : k.row p.tag = some .parked) {n : Fin 2}
    (hn : s.hold.slots[n] = none) (hw : s.sc.session = .watching) (hcopy : p.copies s.rows[p.tag])
    (hticket : ∀ (m : Fin 2) (q : Parked), m ≠ n → s.hold.slots[m] = some q → q.ticket ≠ p.ticket) {x : HoldUnit}
    (hx : x.slots = s.hold.slots.set n (some p)) : ({ s with hold := x } : State).SoundBut (k.drop p.tag) := by
  obtain ⟨port, nodup, queued, hand, parked, deciding, apart, inStep, session, rows, records⟩ := h
  obtain ⟨hstate, -, hslot⟩ := hand p.tag _ ht
  have hread : ∀ (m : Fin 2) (q : Parked), x.slots[m] = some q ↔
      (m = n ∧ q = p) ∨ (m ≠ n ∧ s.hold.slots[m] = some q) := fun m q => by
    rw [hx, slot_set]
    split
    case isTrue he => simp [he, eq_comm]
    case isFalse he => simp [he]
  constructor
  case hand =>
    intro u st hu
    rw [InHand.drop_row] at hu
    split at hu
    · cases hu
    case isFalse he =>
      obtain ⟨hst, hnq, hnone⟩ := hand u st hu
      refine ⟨hst, hnq, fun m q hq => ?_⟩
      obtain ⟨-, rfl⟩ | ⟨-, hq⟩ := (hread m q).1 hq
      · exact Ne.symm he
      · exact hnone m q hq
  case parked =>
    intro u
    rw [InHand.drop_row]
    split
    case isTrue he => exact iff_of_true (he ▸ hstate) (.inr ⟨n, p, (hread n p).2 (.inl ⟨rfl, rfl⟩), he.symm⟩)
    case isFalse he =>
      refine (parked u).trans (or_congr_right ⟨?_, ?_⟩)
      · rintro ⟨m, q, hq, hqt⟩
        refine ⟨m, q, (hread m q).2 (.inr ⟨?_, hq⟩), hqt⟩
        rintro rfl
        cases hn.symm.trans hq
      · rintro ⟨m, q, hq, hqt⟩
        obtain ⟨-, rfl⟩ | ⟨-, hq⟩ := (hread m q).1 hq
        · exact absurd hqt.symm he
        · exact ⟨m, q, hq, hqt⟩
  case deciding =>
    intro u hu
    rw [InHand.drop_row, if_neg]
    · exact deciding u hu
    · rintro rfl
      cases hstate.symm.trans hu
  case apart =>
    intro m m' q q' hq hq' heq
    obtain ⟨rfl, rfl⟩ | ⟨hm, hq⟩ := (hread m q).1 hq <;> obtain ⟨rfl, rfl⟩ | ⟨hm', hq'⟩ := (hread m' q').1 hq'
    · rfl
    · exact heq.elim (fun he => absurd he.symm (hslot m' q' hq')) fun he => absurd he.symm (hticket m' q' hm' hq')
    · exact heq.elim (fun he => absurd he (hslot m q hq)) fun he => absurd he (hticket m q hm hq)
    · exact apart m m' q q' hq hq' heq
  case inStep =>
    intro m q hq
    obtain ⟨-, rfl⟩ | ⟨-, hq⟩ := (hread m q).1 hq
    · exact hcopy
    · exact inStep m q hq
  case session => exact fun hs => absurd hw hs
  all_goals assumption

/-! ### Updates of rows -/

/-- What the row invariant reads of a row in a place is kept. -/
theorem Row.Sound.same {r q : Row} (h : r.Sound) (hstate : q.state = r.state) (hbeats : q.beats = r.beats)
    (hwait : q.wait = r.wait) (hempty : r = Row.empty → q = Row.empty) : q.Sound := by
  obtain ⟨wait, empty, beats, data⟩ := h
  refine ⟨?_, fun hq => hempty (empty (hstate ▸ hq)), hbeats ▸ beats, hwait ▸ data⟩
  rw [hstate, hwait]
  exact wait

theorem Row.Sound.wait_of_ne {r : Row} (h : r.Sound) (hr : r.state ≠ .responding) : r.wait = none := by
  rw [← Option.not_isSome_iff_eq_none, ← h.wait]
  exact hr

/-- A row in hand that is not RESPONDING may take any other such state but EMPTY and QUEUED. -/
theorem Row.Sound.withState {r : Row} (h : r.Sound) (hr : r.state ≠ .responding) {st : RowState}
    (hst : st ≠ .responding) (hne : st ≠ .empty) : ({ r with state := st } : Row).Sound := by
  refine ⟨iff_of_false hst ?_, fun he => absurd he hne, h.beats, h.data⟩
  rw [h.wait_of_ne hr]
  decide

theorem Row.sound_empty : Row.empty.Sound :=
  ⟨by decide, fun _ => rfl, by decide, fun _ hw => nomatch hw⟩

/-- An update of a row in hand that keeps its state, its beats and its response. -/
theorem State.SoundBut.keepRow (h : s.SoundBut k) {tag : Fin 8} {st : RowState} (ht : k.row tag = some st)
    (hne : st ≠ .empty) {f : Row → Row}
    (hf : ∀ r, (f r).state = r.state ∧ (f r).beats = r.beats ∧ (f r).wait = r.wait) :
    (modifyRow tag f s).SoundBut k := by
  obtain ⟨hstate, hbeats, hwait⟩ := hf s.rows[tag]
  obtain ⟨hst, hnq, -⟩ := h.hand tag st ht
  have hq : (f s.rows[tag]).Sound := (h.rows tag).same hstate hbeats hwait fun he =>
    absurd (hst.symm.trans (congrArg Row.state he)) hne
  have hset := h.setRow ht hq (by rw [hstate, hst]; exact hnq)
  rwa [hstate, hst, InHand.take_same ht] at hset

/-- An update of every row that keeps what a place reads of it. -/
theorem State.SoundBut.mapRows (h : s.SoundBut k) {f : Row → Row} (hempty : f Row.empty = Row.empty)
    (hf : ∀ r, (f r).state = r.state ∧ (f r).beats = r.beats ∧ (f r).wait = r.wait ∧
      ∀ p : Parked, p.copies r → p.copies (f r)) : (mapRows f s).SoundBut k := by
  obtain ⟨port, nodup, queued, hand, parked, deciding, apart, inStep, session, rows, records⟩ := h
  have hrow : ∀ u : Fin 8, (Machine.mapRows f s).rows[u] = f s.rows[u] := fun u => by simp
  have hstate : ∀ u : Fin 8, (Machine.mapRows f s).rows[u].state = s.rows[u].state := fun u => by
    rw [hrow]
    exact (hf _).1
  constructor
  case inStep =>
    intro n p hp
    rw [hrow]
    exact (hf _).2.2.2 p (inStep n p hp)
  case rows =>
    intro u
    rw [hrow]
    obtain ⟨hst, hbeats, hwait, -⟩ := hf s.rows[u]
    exact (rows u).same hst hbeats hwait fun he => he ▸ hempty
  case queued | hand | parked | deciding => simp only [hstate]; assumption
  all_goals assumption

/-- The row in hand is answered and EMPTY (R28). -/
theorem State.SoundBut.deliverRow (h : s.SoundBut k) {tag : Fin 8} {st : RowState} (ht : k.row tag = some st)
    (status : RespStatus) : (deliverRow tag status s).SoundBut (k.drop tag) := by
  have hset := h.setRow ht Row.sound_empty (by decide)
  have hdown := hset.putDown (st := .empty) (InHand.take_row_same ..) (by decide) (by decide)
  rw [InHand.drop_take] at hdown
  exact hdown.congr rfl rfl rfl rfl rfl fun _ => .inl

/-- A HOLD attempt parks a row in hand that is not RESPONDING in a FREE slot (R83, R84). -/
theorem State.SoundBut.park (h : s.SoundBut k) {tag : Fin 8} {st : RowState} (ht : k.row tag = some st)
    (hr : st ≠ .responding) {n : Fin 2} (hn : s.hold.slots[n] = none) (hw : s.sc.session = .watching) :
    (park tag n s).SoundBut (k.drop tag) := by
  obtain ⟨hstate, -, -⟩ := h.hand tag st ht
  have hparked := h.setRow ht ((h.rows tag).withState (hstate ▸ hr) (st := .parked) (by decide) (by decide)) (by simp)
  have hfill := hparked.fillSlot
    (p := { tag := tag, ticket := nextTicket s.hold n, parkTime := s.tb.ticks, kind := s.rows[tag].kind,
            address := s.rows[tag].address, size := s.rows[tag].size, beats := s.rows[tag].beats,
            writeData := s.rows[tag].writeData })
    (InHand.take_row_same ..) hn hw (by simp [Parked.copies]) (fun m q hm hq => nextTicket_ne hq hm)
    (x := { s.hold with slots := _, ticket := nextTicket s.hold n }) rfl
  rw [InHand.drop_take] at hfill
  unfold Machine.park
  rw [raise_eq]
  exact hfill.congr rfl rfl rfl rfl rfl fun _ => .inl

/-- A grant takes the head of the Forward Queue to memory (R35, R153). -/
theorem State.SoundBut.grantForward (h : s.SoundBut k) {tag : Fin 8} {rest : List (Fin 8)} (hfq : s.fq = tag :: rest)
    (passOver : Nat) : (grantForward tag rest passOver s).SoundBut k := by
  obtain ⟨port, nodup, queued, hand, parked, deciding, apart, inStep, session, rows, records⟩ := h
  rw [hfq] at nodup queued
  obtain ⟨hnot, hrest⟩ := List.nodup_cons.1 nodup
  have hstate : s.rows[tag].state = .queued := (queued tag).1 List.mem_cons_self
  have hrow : ∀ u, (Machine.grantForward tag rest passOver s).rows[u] =
      if u = tag then { s.rows[tag] with state := .issued } else s.rows[u] := fun u => row_set ..
  have hst : ∀ (u : Fin 8) (st : RowState), st ≠ .queued → st ≠ .issued →
      ((Machine.grantForward tag rest passOver s).rows[u].state = st ↔ s.rows[u].state = st) := fun u st hq hi => by
    rw [hrow]
    split
    case isTrue he => rw [he, hstate]; exact iff_of_false (Ne.symm hi) (Ne.symm hq)
    case isFalse => rfl
  constructor
  case nodup => exact hrest
  case queued =>
    intro u
    rw [hrow]
    split
    case isTrue he => exact iff_of_false (he ▸ hnot) (by simp)
    case isFalse he => rw [← queued u, List.mem_cons, or_iff_right he]; rfl
  case hand =>
    intro u st hu
    obtain ⟨hs, hnq, hslot⟩ := hand u st hu
    rw [hrow, if_neg]
    · exact ⟨hs, hnq, hslot⟩
    · rintro rfl
      exact hnq (hs.symm.trans hstate)
  case parked => exact fun u => (hst u _ (by decide) (by decide)).trans (parked u)
  case deciding => exact fun u hu => deciding u ((hst u _ (by decide) (by decide)).1 hu)
  case inStep =>
    intro n p hp
    rw [hrow]
    split
    case isTrue he =>
      have hparked := (parked p.tag).2 (.inr ⟨n, p, hp, rfl⟩)
      rw [he, hstate] at hparked
      cases hparked
    case isFalse => exact inStep n p hp
  case rows =>
    intro u
    rw [hrow]
    split
    · exact (rows tag).withState (by rw [hstate]; decide) (by decide) (by decide)
    · exact rows u
  all_goals assumption

end Sys2Proof.Machine
end

section
/-! Records, releases, the Ring Writer, stop and level requests, counters and hits keep the path sound, whatever is in
hand (R88, R97, R104, R140). -/

namespace Sys2Proof.Machine

variable {s t : State} {k : InHand} {tag : Fin 8}

/-! ### Lengths of records (R104, R106) -/

theorem RecordBody.one_le_length (b : RecordBody) : 1 ≤ b.length := by
  cases b with
  | hit x => exact Nat.le_add_right_of_le (by decide)
  | _ => exact Nat.succ_pos _

theorem markSeen_length (seen : Bool) (b : RecordBody) : (markSeen seen b).length = b.length := by
  cases b <;> rfl

theorem fits_gapRecord (n : Nat) : (gapRecord n).fits := show 1 ≤ 1 ∧ 1 ≤ 12 by decide

/-- The records of a bundle are as long as its own record allows. -/
theorem fits_of_mem_bundle {b : RecordBody} (hb : b.length ≤ 12) {r : Record} (hr : r ∈ bundle s b) : r.fits := by
  have hbody : ∀ seen : Bool, 1 ≤ (markSeen seen b).length ∧ (markSeen seen b).length ≤ 12 := fun seen => by
    rw [markSeen_length]
    exact ⟨b.one_le_length, hb⟩
  obtain hloss | htimed := List.mem_append.1 hr
  · unfold lossDue at hloss
    split at hloss
    · cases hloss
    · rw [List.mem_singleton.1 hloss]
      exact show 1 ≤ 2 ∧ 2 ≤ 12 by decide
  · unfold timed at htimed
    split at htimed
    · rw [List.mem_singleton.1 htimed]
      exact hbody _
    · obtain hgap | hrec := List.mem_append.1 htimed
      · split at hgap
        · rw [List.mem_singleton.1 hgap]
          exact fits_gapRecord _
        · cases hgap
      · rw [List.mem_singleton.1 hrec]
        exact hbody _

/-- The record of a row carries no more words than the row has beats (R109). -/
theorem buildHit_data_length (h : s.rows[tag].Sound) (d : Disposition) (e r : Bool) :
    (buildHit s tag d e r).data.length ≤ 8 := by
  have hbeats : s.rows[tag].beats ≤ 8 := by
    have hb := h.beats
    simp only [List.mem_cons, List.not_mem_nil, or_false] at hb
    omega
  simp only [buildHit, recordData]
  split <;> simp only [List.length_nil, List.length_take] <;> omega

/-- What an admitted bundle changes: the queue, the Record Builder and the Alert Unit (R122). -/
theorem admitBundle_some {own : Bool} {b : RecordBody} {a : State} (h : admitBundle own b s = some a) :
    a.cq.records = s.cq.records ++ bundle s b ∧ a = { s with cq := a.cq, rbl := a.rbl, au := a.au } := by
  unfold admitBundle at h
  split at h
  · rw [append_eq, Option.some.injEq] at h
    rw [← h]
    exact ⟨rfl, rfl⟩
  · cases h

/-! ### Causes and records -/

theorem State.SoundBut.raise (h : s.SoundBut k) (cls : Option (Fin 4)) (c : CauseKind) (i : Nat) :
    (raise cls c i s).SoundBut k := by
  rw [raise_eq]
  exact h.congr rfl rfl rfl rfl rfl fun _ => .inl

theorem State.SoundBut.raiseMapped (h : s.SoundBut k) (c : CauseKind) (i : Nat) : (raiseMapped c i s).SoundBut k :=
  h.raise _ c i

theorem State.SoundBut.countLost (h : s.SoundBut k) (n : Nat) : (countLost n s).SoundBut k :=
  h.congr rfl rfl rfl rfl rfl fun _ => .inl

theorem State.SoundBut.dropRecord (h : s.SoundBut k) : (dropRecord s).SoundBut k := by
  rw [dropRecord_eq]
  exact h.congr rfl rfl rfl rfl rfl fun _ => .inl

theorem State.SoundBut.discardCounted (h : s.SoundBut k) : (discardCounted s).SoundBut k :=
  h.congr rfl rfl rfl rfl rfl fun _ hr => nomatch hr

theorem State.SoundBut.admitBundle (h : s.SoundBut k) {own : Bool} {b : RecordBody} (hb : b.length ≤ 12) {a : State}
    (ha : admitBundle own b s = some a) : a.SoundBut k := by
  obtain ⟨hrecords, heq⟩ := admitBundle_some ha
  rw [heq]
  refine h.congr rfl rfl rfl rfl rfl fun r hr => ?_
  rw [hrecords] at hr
  exact (List.mem_append.1 hr).imp id (fits_of_mem_bundle hb)

/-! ### Releases (R88, R97) -/

/-- A way to deal with a release's record that keeps the path sound. -/
abbrev SoundMake (make : HitRecord → State → State) : Prop :=
  ∀ (x : HitRecord) (u : State) (k : InHand), x.data.length ≤ 8 → u.SoundBut k → (make x u).SoundBut k

theorem soundMake_countLost : SoundMake fun _ => countLost 1 := fun _ _ _ _ h => h.countLost 1

/-- The row of a slot is not in hand. -/
theorem State.SoundBut.row_of_slot (h : s.SoundBut k) {n : Fin 2} {p : Parked} (hp : s.hold.slots[n] = some p) :
    k.row p.tag = none := by
  by_contra hne
  obtain ⟨st, hst⟩ := Option.ne_none_iff_exists'.1 hne
  exact (h.hand p.tag st hst).2.2 n p hp rfl

theorem State.SoundBut.clearDebt (h : s.SoundBut k) {st : RowState} (ht : k.row tag = some st) (hne : st ≠ .empty) :
    (clearDebt tag s).SoundBut k :=
  h.keepRow ht hne fun _ => ⟨rfl, rfl, rfl⟩

theorem State.SoundBut.releaseSlot {make : HitRecord → State → State} (hm : SoundMake make) (h : s.SoundBut k)
    (n : Fin 2) (d : Disposition) (words : List Word) : (releaseSlot make n d words s).SoundBut (k.shut n) := by
  unfold Machine.releaseSlot
  split
  case h_1 hn => exact h.shut hn
  case h_2 p hp =>
    have hplace : ((k.take p.tag .parked).shut n).drop p.tag = k.shut n :=
      ((k.shut n).drop_take p.tag .parked).trans (InHand.drop_same (h.row_of_slot hp))
    have htag : ((k.take p.tag .parked).shut n).row p.tag = some .parked := InHand.take_row_same ..
    have hfree := h.freeSlot hp
    generalize (k.take p.tag .parked).shut n = k' at hplace htag hfree
    have hanswer : State.SoundBut k' (if d.answers then Machine.modifyRow p.tag (answerFields d words)
        (Machine.freeSlot n s) else Machine.freeSlot n s) := by
      split
      · exact hfree.keepRow htag (by decide) fun _ => ⟨rfl, rfl, rfl⟩
      · exact hfree
    dsimp only
    generalize (if d.answers then Machine.modifyRow p.tag (answerFields d words) (Machine.freeSlot n s)
        else Machine.freeSlot n s) = u at hanswer ⊢
    have hrecord : State.SoundBut k'
        (if u.rows[p.tag].owed && (decide (u.rows[p.tag].kind = .write) || d.answers) then
          Machine.clearDebt p.tag (make (buildHit u p.tag d false false) u) else u) := by
      split
      · exact (hm _ _ _ (buildHit_data_length (hanswer.rows p.tag) ..) hanswer).clearDebt htag (by decide)
      · exact hanswer
    rw [← hplace]
    split
    · exact hrecord.deliverRow htag _
    · refine State.SoundBut.queueForward (hrecord.keepRow htag (by decide) fun r => ?_) htag (by decide)
      unfold forwardFields
      split <;> exact ⟨rfl, rfl, rfl⟩

/-- After both releases no slot is left to release. -/
theorem State.SoundBut.releaseBoth {make : HitRecord → State → State} (hm : SoundMake make) {slot : Fin 2 → Prop}
    (h : s.SoundBut { k with slot := slot }) : (releaseBoth make s).SoundBut k := by
  have hboth := (h.releaseSlot hm 0 .stopForward []).releaseSlot hm 1 .stopForward []
  refine hboth.withSlot fun hw n p hp => ?_
  obtain ⟨⟨-, h0⟩, h1⟩ := hboth.session hw n p hp
  omega

/-- The session may change to one in which what is still parked is to be released. -/
theorem State.SoundBut.setSession (h : s.SoundBut k) {c : SessionController}
    (hc : c.session ≠ .watching → ∀ (n : Fin 2) (p : Parked), s.hold.slots[n] = some p → k.slot n) :
    ({ s with sc := c } : State).SoundBut k := by
  obtain ⟨port, nodup, queued, hand, parked, deciding, apart, inStep, session, rows, records⟩ := h
  constructor
  all_goals assumption

theorem State.SoundBut.freeze (h : s.SoundBut k) : (freeze s).SoundBut k :=
  (h.mapRows (f := fun r => { r with late := 0#16 }) rfl fun _ => ⟨rfl, rfl, rfl, fun _ => id⟩).congr
    rfl rfl rfl rfl rfl fun _ => .inl

/-- The session leaves WATCHING for another state, or for none of the block's own doing (R50, R53). -/
theorem State.SoundBut.leaveWatching {make : HitRecord → State → State} (hm : SoundMake make) (h : s.SoundBut k)
    (c : SessionController) : (Machine.releaseBoth make (Machine.freeze { s with sc := c })).SoundBut k := by
  have hopen : s.SoundBut { k with slot := fun _ => True } := h.withSlot fun _ _ _ _ => trivial
  have hleft := hopen.setSession (c := c) fun _ _ _ _ => trivial
  exact State.SoundBut.releaseBoth hm hleft.freeze

theorem State.SoundBut.enterStoppingWith {make : HitRecord → State → State} (hm : SoundMake make) (h : s.SoundBut k)
    (reason : StopReason) : (enterStoppingWith make reason s).SoundBut k :=
  h.leaveWatching hm _

/-! ### The Ring Writer and offers -/

theorem State.SoundBut.ringFinished (h : s.SoundBut k) : (ringFinished s).SoundBut k := by
  have hdone : (Machine.discardCounted { s with rw := { s.rw with ringDone := true } }).SoundBut k :=
    h.congr rfl rfl rfl rfl rfl fun _ hr => nomatch hr
  unfold Machine.ringFinished
  dsimp only
  split
  · exact (hdone.raiseMapped _ _).enterStoppingWith soundMake_countLost _
  · exact hdone.raiseMapped _ _

theorem State.SoundBut.formPlacement (h : s.SoundBut k) : (formPlacement s).SoundBut k := by
  unfold Machine.formPlacement
  split
  · exact h
  · split
    · exact h.congr rfl rfl rfl rfl rfl fun _ => .inl
    · exact h.congr rfl rfl rfl rfl rfl fun _ => .inl
    · exact h.ringFinished

theorem State.SoundBut.takeHead (h : s.SoundBut k) : (takeHead s).SoundBut k := by
  unfold Machine.takeHead
  split
  · exact h.formPlacement
  · exact h

theorem State.SoundBut.offer (h : s.SoundBut k) (own : Bool) {b : RecordBody} (hb : b.length ≤ 12) :
    (offer own b s).SoundBut k := by
  unfold Machine.offer
  split
  · exact h.countLost 1
  · split
    case h_1 ha => exact (h.admitBundle hb ha).takeHead
    case h_2 => exact h.dropRecord

theorem hit_length_le {x : HitRecord} (hx : x.data.length ≤ 8) : (RecordBody.hit x).length ≤ 12 := by
  rw [RecordBody.length]
  omega

theorem State.SoundBut.makeHit (h : s.SoundBut k) (own : Bool) {x : HitRecord} (hx : x.data.length ≤ 8) :
    (makeHit own x s).SoundBut k := by
  unfold Machine.makeHit
  split
  · exact h.offer own (hit_length_le hx)
  · exact h.countLost 1

theorem soundMake_makeHit (own : Bool) : SoundMake (makeHit own) := fun _ _ _ hx h => h.makeHit own hx

/-! ### Requests to the Session Controller, counters, hits -/

theorem State.SoundBut.stopRequest (h : s.SoundBut k) (reason : StopReason) : (stopRequest reason s).SoundBut k := by
  unfold Machine.stopRequest
  split
  · exact h.enterStoppingWith (soundMake_makeHit false) reason
  · exact h

theorem State.SoundBut.levelRequest (h : s.SoundBut k) (v : Fin 4) (c : LevelCause) (i : Nat) :
    (levelRequest v c i s).SoundBut k := by
  unfold Machine.levelRequest
  split
  · have hlevel : ({ s with sc := { s.sc with level := v } } : State).SoundBut k :=
      h.congr rfl rfl rfl rfl rfl fun _ => .inl
    dsimp only
    split
    · exact hlevel.offer false (show 2 ≤ 12 by decide)
    · exact hlevel
  · exact h

theorem State.SoundBut.expiryActions (h : s.SoundBut k) (n : Fin 4) : (expiryActions n s).SoundBut k := by
  have hraise := h.raise s.counters[n].alert .expiry n.val
  have hlevel : State.SoundBut k (match s.counters[n].nextLevel with
      | some v => Machine.levelRequest v .counter n.val (Machine.raise s.counters[n].alert .expiry n.val s)
      | none => Machine.raise s.counters[n].alert .expiry n.val s) := by
    split
    · exact hraise.levelRequest _ _ _
    · exact hraise
  unfold Machine.expiryActions
  dsimp only
  split
  · exact hlevel.offer false (show 1 ≤ 12 by decide)
  · exact hlevel

theorem State.SoundBut.expiryStop (h : s.SoundBut k) (n : Fin 4) : (expiryStop n s).SoundBut k := by
  unfold Machine.expiryStop
  split
  · exact h.stopRequest _
  · exact h

/-- A fold of operations that keep the path sound keeps it sound. -/
theorem State.SoundBut.foldl {α : Type} {f : State → α → State} (hf : ∀ u x, State.SoundBut k u → (f u x).SoundBut k)
    (l : List α) (h : s.SoundBut k) : (l.foldl f s).SoundBut k := by
  induction l generalizing s with
  | nil => exact h
  | cons x l ih => exact ih (hf s x h)

theorem State.SoundBut.counterEvent (h : s.SoundBut k) (ev : CounterEvent) : (counterEvent ev s).SoundBut k := by
  unfold Machine.counterEvent
  split
  · refine State.SoundBut.foldl (fun _ n hu => hu.expiryStop n) _ ?_
    exact State.SoundBut.foldl (fun _ n hu => hu.expiryActions n) _ (h.congr rfl rfl rfl rfl rfl fun _ => .inl)
  · exact h

theorem State.SoundBut.requestLevel (h : s.SoundBut k) (level : Option (Fin 16 × Fin 4)) :
    (requestLevel level s).SoundBut k := by
  unfold Machine.requestLevel
  split
  · exact h.levelRequest _ _ _
  · exact h

theorem State.SoundBut.requestStop (h : s.SoundBut k) (stop : Option (Fin 16)) : (requestStop stop s).SoundBut k := by
  unfold Machine.requestStop
  split
  · exact h.stopRequest _
  · exact h

theorem State.SoundBut.notify (h : s.SoundBut k) {st : RowState} (ht : k.row tag = some st) (hne : st ≠ .empty)
    (notices : BitVec 4) : (notify tag notices s).SoundBut k := by
  unfold Machine.notify
  refine State.SoundBut.counterEvent ?_ _
  exact h.keepRow ht hne fun _ => ⟨rfl, rfl, rfl⟩

/-- Totals and causes of hits leave the path alone (R18, R21). -/
theorem State.SoundBut.hits (h : s.SoundBut k) (alerts : List (Fin 16 × Fin 4)) (set : BitVec 16) :
    (raiseHits alerts (countHits set s)).SoundBut k := by
  rw [raiseHits_eq]
  exact h.congr rfl rfl rfl rfl rfl fun _ => .inl

theorem State.SoundBut.handOn (h : s.SoundBut k) {st : RowState} (ht : k.row tag = some st) (hne : st ≠ .empty)
    (o : MatchOutcome) : (handOn tag o s).SoundBut k :=
  ((h.hits _ _).requestLevel _).notify ht hne _

end Sys2Proof.Machine
end

section
/-! The decision puts down the row in hand, and the gates of the Request Port leave the path intact (R31 to R34, R80 to
R86, R95, R126). -/

namespace Sys2Proof.Machine

variable {s t : State} {k : InHand} {tag : Fin 8}

/-! ### The decision (R34, R80 to R86) -/

theorem State.SoundBut.writeRecord (h : s.SoundBut k) {st : RowState} (ht : k.row tag = some st) (hne : st ≠ .empty)
    (d : Disposition) (refused : Bool) : (writeRecord tag d refused s).SoundBut k := by
  unfold Machine.writeRecord
  split
  · exact (h.makeHit true (buildHit_data_length (h.rows tag) ..)).clearDebt ht hne
  · exact h

theorem State.SoundBut.decideForward (h : s.SoundBut k) (ht : k.row tag = some .deciding) (d : Disposition)
    (refused : Bool) : (decideForward tag d refused s).SoundBut (k.drop tag) := by
  unfold Machine.decideForward
  refine (State.SoundBut.writeRecord ?_ ht (by decide) d refused).queueForward ht (by decide)
  exact h.keepRow ht (by decide) fun _ => ⟨rfl, rfl, rfl⟩

theorem State.SoundBut.decideBlock (h : s.SoundBut k) (ht : k.row tag = some .deciding) (status : RespStatus) :
    (decideBlock tag status s).SoundBut (k.drop tag) := by
  unfold Machine.decideBlock
  dsimp only
  refine State.SoundBut.deliverRow ?_ ht status
  have hrow := h.keepRow (f := fun r => { r with
    late := 0#16
    readBuf := if r.kind = .read ∧ status = .okay then List.replicate r.beats 0#32 else [] }) ht (by decide)
    fun _ => ⟨rfl, rfl, rfl⟩
  split
  · exact (hrow.makeHit true (buildHit_data_length (hrow.rows tag) ..)).clearDebt ht (by decide)
  · exact hrow

theorem slot_of_freeSlot {x : HoldUnit} {n : Fin 2} (h : x.freeSlot = some n) : x.slots[n] = none := by
  unfold HoldUnit.freeSlot at h
  split at h
  case isTrue h0 =>
    cases h
    exact Option.isNone_iff_eq_none.1 h0
  case isFalse =>
    split at h
    case isTrue h1 =>
      cases h
      exact Option.isNone_iff_eq_none.1 h1
    case isFalse => cases h

theorem State.SoundBut.decideHold (h : s.SoundBut k) (ht : k.row tag = some .deciding) (entry : Fin 16) :
    (decideHold tag entry s).SoundBut (k.drop tag) := by
  unfold Machine.decideHold
  split
  case isTrue hw =>
    split
    case h_1 n hn => exact h.park ht (by decide) (slot_of_freeSlot hn) hw
    case h_2 => exact (h.decideForward ht _ _).raiseMapped _ _
  case isFalse => exact h.decideForward ht _ _

theorem State.SoundBut.carryOut (h : s.SoundBut k) (ht : k.row tag = some .deciding) (v : Verdict) :
    (carryOut tag v s).SoundBut (k.drop tag) := by
  cases v with
  | forward => exact h.decideForward ht _ _
  | block status => exact h.decideBlock ht status
  | hold entry => exact h.decideHold ht entry

/-- The acceptance state may change by itself. -/
theorem State.SoundBut.setPort (h : s.SoundBut k) (x : RequestPort) :
    ({ s with rqp := x } : State).SoundBut { k with port := x.acceptance } := by
  obtain ⟨port, nodup, queued, hand, parked, deciding, apart, inStep, session, rows, records⟩ := h
  constructor
  case port => rfl
  all_goals assumption

/-- After its decision no row is in the hand of the Request Port. -/
theorem State.SoundBut.decideRequest (h : s.SoundBut k) (ht : k.row tag = some .deciding) (o : MatchOutcome) :
    (decideRequest tag o s).SoundBut { k.drop tag with port := .idle } := by
  have hport := (((h.handOn ht (by decide) o).carryOut ht o.verdict).requestStop o.stop).setPort
    { (Machine.requestStop o.stop (Machine.carryOut tag o.verdict (Machine.handOn tag o s))).rqp with
      acceptance := .idle }
  exact hport.congr rfl rfl rfl rfl rfl fun _ => .inl

/-! ### What the Request Port has in hand between the parts of a step (R31) -/

/-- No slot is to be released. -/
abbrev noSlot : Fin 2 → Prop := fun _ => False

/-- No row is in hand. -/
def InHand.nothing (a : Acceptance) (slot : Fin 2 → Prop) : InHand := { port := a, row := fun _ => none, slot := slot }

/-- What the Request Port has in hand: the row that waits at the LOSSLESS gate, or the row of the tag whose request
waits. `st` is what the ORPHAN wait finds its row in: ORPHAN, or EMPTY once the wait is over. -/
def Acceptance.hand (st : RowState) (slot : Fin 2 → Prop) (a : Acceptance) : InHand :=
  { port := a
    row := match a with
      | .idle => fun _ => none
      | .waitOrphan r => Function.update (fun _ => none) r.tag (some st)
      | .waitConflict r => Function.update (fun _ => none) r.tag (some .empty)
      | .waitLossless tag _ _ => Function.update (fun _ => none) tag (some .deciding)
    slot := slot }

theorem InHand.nothing_drop (a : Acceptance) (slot : Fin 2 → Prop) (u : Fin 8) :
    (InHand.nothing a slot).drop u = .nothing a slot :=
  InHand.drop_same rfl

/-- The decision puts down the row in the hand of the Request Port. -/
theorem State.SoundBut.decideHeld {st : RowState} {slot : Fin 2 → Prop} {since : Word} {o : MatchOutcome}
    (h : s.SoundBut ((Acceptance.waitLossless tag since o).hand st slot)) (o' : MatchOutcome) :
    (Machine.decideRequest tag o' s).SoundBut (.nothing .idle slot) := by
  have htaken : s.SoundBut ((InHand.nothing (.waitLossless tag since o) slot).take tag .deciding) := h
  have hdone := htaken.decideRequest (InHand.take_row_same ..) o'
  rw [InHand.drop_take, InHand.nothing_drop] at hdone
  exact hdone

/-- Between the parts of a step: the path is sound, but a wait of the Request Port may be over. -/
structure State.Underway (s : State) : Prop where
  checked : s.rqp.acceptance.checked = true
  sound   : ∃ st, (st = .orphan ∨ st = .empty) ∧ s.SoundBut (s.rqp.acceptance.hand st noSlot)

/-- Between steps: the path is sound, and a wait of the Request Port stands. -/
structure State.Intact (s : State) : Prop where
  checked : s.rqp.acceptance.checked = true
  sound   : s.SoundBut (s.rqp.acceptance.hand .orphan noSlot)
  covered : ∀ r, s.rqp.acceptance = .waitConflict r → s.covered r.address = true

theorem State.Intact.underway (h : s.Intact) : s.Underway := ⟨h.checked, _, .inl rfl, h.sound⟩

theorem State.SoundBut.underway {st : RowState} (ho : st = .orphan ∨ st = .empty) {a : Acceptance}
    (h : s.SoundBut (a.hand st noSlot)) (ha : a.checked = true) : s.Underway := by
  obtain rfl : s.rqp.acceptance = a := h.port
  exact ⟨ha, st, ho, h⟩

theorem State.SoundBut.intact {a : Acceptance} (h : s.SoundBut (a.hand .orphan noSlot)) (ha : a.checked = true)
    (hc : ∀ r, a = .waitConflict r → s.covered r.address = true) : s.Intact := by
  obtain rfl : s.rqp.acceptance = a := h.port
  exact ⟨ha, h, hc⟩

/-- An operation that keeps the path sound, whatever is in hand, keeps it so between the parts of a step. -/
theorem State.Underway.map (h : s.Underway) (hf : ∀ k, s.SoundBut k → t.SoundBut k) : t.Underway := by
  obtain ⟨hchecked, st, ho, hs⟩ := h
  exact (hf _ hs).underway ho hchecked

/-! ### The gates (R31, R32, R33, R95, R126) -/

theorem intact_decideRequest {a : Acceptance} (h : s.SoundBut ((InHand.nothing a noSlot).take tag .deciding))
    (o : MatchOutcome) : (decideRequest tag o s).Intact := by
  have hdone := h.decideRequest (InHand.take_row_same ..) o
  rw [InHand.drop_take, InHand.nothing_drop] at hdone
  exact State.SoundBut.intact (a := .idle) hdone rfl (by simp)

theorem intact_passGate {a : Acceptance} (h : s.SoundBut ((InHand.nothing a noSlot).take tag .deciding))
    (o : MatchOutcome) : (passGate tag o s).Intact := by
  unfold passGate
  refine intact_decideRequest (a := a) ?_ o
  exact h.congr rfl rfl rfl rfl rfl fun _ => .inl

theorem intact_losslessGate (h : s.SoundBut ((InHand.nothing .idle noSlot).take tag .deciding)) (o : MatchOutcome) :
    (losslessGate tag o s).Intact := by
  unfold losslessGate
  split
  · split
    · exact intact_passGate h o
    · have hwait := h.setPort { s.rqp with acceptance := .waitLossless tag s.tb.ticks o }
      exact State.SoundBut.intact (a := .waitLossless tag s.tb.ticks o) hwait rfl (by simp)
  · exact intact_decideRequest h o

theorem beats_of_not_malformed {r : Request} (h : malformed r = false) : r.beats ∈ [1, 2, 4, 8] := by
  unfold malformed at h
  split at h
  · cases h
  · split at h
    case isTrue hone => simp [hone]
    case isFalse =>
      split at h
      case isTrue hlegal => simpa using Or.inr hlegal
      case isFalse => cases h

theorem sound_takenRow (s : State) {r : Request} (h : malformed r = false) : (takenRow s r).Sound :=
  ⟨by simp [takenRow, Row.empty], by simp [takenRow], beats_of_not_malformed h, by simp [takenRow, Row.empty]⟩

theorem sound_matchedRow (s : State) {r : Request} (h : malformed r = false) : (matchedRow s r).Sound :=
  (sound_takenRow s h).same rfl rfl rfl fun he => nomatch congrArg Row.state he

/-- A request whose row is EMPTY is taken. -/
theorem intact_takeRequest (h : s.SoundBut (.nothing .idle noSlot)) {r : Request} (hm : malformed r = false)
    (hrow : s.rows[r.tag].state = .empty) : (takeRequest r s).Intact := by
  have htake : ∀ q : Row, q.Sound → q.state = .deciding →
      (modifyRow r.tag (fun _ => q) s).SoundBut ((InHand.nothing .idle noSlot).take r.tag .deciding) := by
    intro q hq hd
    have hset := (h.takeRow hrow (by decide) (by decide)).setRow (InHand.take_row_same ..) hq (by rw [hd]; decide)
    rwa [InHand.take_take, hd] at hset
  unfold takeRequest
  split
  · exact intact_losslessGate (htake _ (sound_matchedRow s hm) rfl) _
  · exact intact_losslessGate (htake _ (sound_takenRow s hm) rfl) _

theorem intact_conflictGate {a : Acceptance} (h : s.SoundBut (.nothing a noSlot)) {r : Request}
    (hm : malformed r = false) (hrow : s.rows[r.tag].state = .empty) : (conflictGate r s).Intact := by
  unfold conflictGate
  split
  case isTrue hc =>
    have hwait := (h.takeRow hrow (by decide) (by decide)).setPort { s.rqp with acceptance := .waitConflict r }
    refine State.SoundBut.intact (a := .waitConflict r) hwait (by simp [Acceptance.checked, hm]) fun q hq => ?_
    cases hq
    exact hc
  case isFalse => exact intact_takeRequest (h.setPort { s.rqp with acceptance := .idle }) hm hrow

theorem State.SoundBut.respond (h : s.SoundBut k) (x : Response) : (respond x s).SoundBut k :=
  h.congr rfl rfl rfl rfl rfl fun _ => .inl

theorem intact_readRequest (h : s.SoundBut (.nothing .idle noSlot)) {r : Request} : (readRequest r s).Intact := by
  have hidle : ∀ u : State, u.SoundBut (.nothing .idle noSlot) → u.Intact := fun u hu =>
    State.SoundBut.intact (a := .idle) hu rfl (by simp)
  unfold readRequest
  split
  case isTrue => exact hidle _ (h.raiseMapped _ _)
  case isFalse hlive =>
    split
    case isTrue => exact hidle _ ((h.respond _).raiseMapped _ _)
    case isFalse hm =>
      rw [Bool.not_eq_true] at hm
      split
      case isTrue ho =>
        have hwait := (h.takeRow ho (by decide) (by decide)).setPort { s.rqp with acceptance := .waitOrphan r }
        exact State.SoundBut.intact (a := .waitOrphan r) hwait (by simp [Acceptance.checked, hm]) (by simp)
      case isFalse ho =>
        refine intact_conflictGate h hm ?_
        cases hs : s.rows[r.tag].state <;> simp_all [RowState.live]

/-- The Request Port reads a request only when it has none in hand (R31). -/
theorem intact_readOldest (h : s.Intact) : (readOldest s).Intact := by
  unfold readOldest
  split
  case h_1 r rest hread _ =>
    have hidle := acceptance_of_mayRead hread
    have hs := h.sound
    rw [hidle] at hs
    have hrest : ({ s with rqp := { s.rqp with presented := rest } } : State).SoundBut (.nothing .idle noSlot) :=
      State.SoundBut.congr hs rfl rfl rfl rfl rfl fun _ => .inl
    exact intact_readRequest hrest
  case h_2 => exact h

end Sys2Proof.Machine
end

section
/-! The end of a step: lossless waits that end, the STOP record, the request that waits, the end of STOPPING, a grant
(assumption 7). -/

namespace Sys2Proof.Machine

variable {s t : State} {k : InHand} {tag : Fin 8} {a : Acceptance} {st : RowState} {slot : Fin 2 → Prop}

/-! ### Rows in their places -/

/-- A row that shows another state than the one in hand is not in hand. -/
theorem State.SoundBut.row_none (h : s.SoundBut k) {x : RowState} (hx : s.rows[tag].state = x)
    (hk : k.row tag ≠ some x) : k.row tag = none := by
  by_contra hne
  obtain ⟨y, hy⟩ := Option.ne_none_iff_exists'.1 hne
  obtain ⟨hstate, -, -⟩ := h.hand tag y hy
  exact hk (by rw [hy, ← hstate, hx])

/-- The states of the rows in the hand of the Request Port. -/
theorem Acceptance.hand_row_ne {x : RowState} (hx : x ≠ st) (he : x ≠ .empty) (hd : x ≠ .deciding) (u : Fin 8) :
    (a.hand st slot).row u ≠ some x := by
  have hone : ∀ (v : Fin 8) (y : RowState), x ≠ y → Function.update (fun _ => none) v (some y) u ≠ some x := by
    intro v y hne
    rw [Function.update_apply]
    split
    · exact fun hy => hne (Option.some.inj hy).symm
    · exact nofun
  cases a with
  | idle => exact nofun
  | waitOrphan r => exact hone _ _ hx
  | waitConflict r => exact hone _ _ he
  | waitLossless v since o => exact hone _ _ hd

theorem Acceptance.hand_lossless (since : Word) (o : MatchOutcome) :
    ((Acceptance.waitLossless tag since o).hand st slot).row tag = some .deciding := by
  simp [Acceptance.hand]

/-- The response of a row that is at memory, or that waits, is given to the response path (R28). -/
theorem State.SoundBut.deliverPlaced (h : s.SoundBut (k.take tag st)) (hk : k.row tag = none) (status : RespStatus) :
    (Machine.deliverRow tag status s).SoundBut k := by
  have hdone := h.deliverRow (InHand.take_row_same ..) status
  rwa [InHand.drop_take, InHand.drop_same hk] at hdone

/-! ### Ends of lossless waits (R129) -/

/-- The response of a RESPONDING row goes upstream. -/
theorem State.SoundBut.deliverResponding (h : s.SoundBut k) (hst : s.rows[tag].state = .responding)
    (hk : k.row tag ≠ some .responding) (status : RespStatus) : (Machine.deliverRow tag status s).SoundBut k :=
  (h.takeRow hst (by decide) (by decide)).deliverPlaced (h.row_none hst hk) status

theorem State.SoundBut.loseWaitingRow (h : s.SoundBut k) (hk : k.row tag ≠ some .responding) :
    (loseWaitingRow tag s).SoundBut k := by
  unfold Machine.loseWaitingRow
  split
  case h_1 hst _ => exact (h.countLost 1).deliverResponding hst hk _
  case h_2 => exact h

theorem loseWaitingRow_hold (tag : Fin 8) (s : State) : (loseWaitingRow tag s).hold = s.hold := by
  unfold loseWaitingRow
  split <;> rfl

theorem foldl_loseWaitingRow_hold (l : List (Fin 8)) (s : State) :
    (l.foldl (fun u x => loseWaitingRow x u) s).hold = s.hold := by
  induction l generalizing s with
  | nil => rfl
  | cons x l ih => exact (ih _).trans (loseWaitingRow_hold x s)

/-- The decision of a write at the gate leaves nothing in hand; any other request stays where it is. -/
theorem State.SoundBut.loseWaitingWrite (h : s.SoundBut (a.hand st slot)) :
    (Machine.loseWaitingWrite s).SoundBut (Acceptance.idle.hand st slot) ∨
      (Machine.loseWaitingWrite s).SoundBut (a.hand st slot) ∧ Machine.loseWaitingWrite s = s := by
  have hport : s.rqp.acceptance = a := h.port
  unfold Machine.loseWaitingWrite
  rw [hport]
  cases a with
  | waitLossless tag since o =>
    have hrow := Acceptance.hand_lossless (st := st) (slot := slot) (tag := tag) since o
    refine .inl (State.SoundBut.decideHeld (st := st) (State.SoundBut.clearDebt ?_ hrow (by decide)) o)
    split
    · exact h.countLost 1
    · exact h
  | idle | waitOrphan r | waitConflict r => exact .inr ⟨h, rfl⟩

/-- Once the lossless waits have ended, the Request Port has in hand what it had, with the slots as they were, or
nothing. -/
theorem State.SoundBut.endLosslessWaits (h : s.SoundBut (a.hand st slot)) (hst : st ≠ .responding) :
    (Machine.endLosslessWaits s).SoundBut (Acceptance.idle.hand st slot) ∨
      (Machine.endLosslessWaits s).SoundBut (a.hand st slot) ∧ (Machine.endLosslessWaits s).hold = s.hold := by
  unfold Machine.endLosslessWaits
  split
  · exact .inr ⟨h, rfl⟩
  · have hrows := State.SoundBut.foldl (f := fun u x => Machine.loseWaitingRow x u)
      (fun u x hu => hu.loseWaitingRow (Acceptance.hand_row_ne hst.symm (by decide) (by decide) x)) allTags h
    refine hrows.loseWaitingWrite.imp id fun ⟨hs, heq⟩ => ⟨hs, ?_⟩
    rw [heq, foldl_loseWaitingRow_hold]

/-! ### The Ring Writer outside WATCHING -/

theorem ringFinished_of_not_watching (h : s.sc.session ≠ .watching) :
    ringFinished s =
      { s with rw := (ringFinished s).rw, cq := (ringFinished s).cq, au := (ringFinished s).au } := by
  unfold ringFinished
  dsimp only
  rw [if_neg (by rw [raiseMapped_eq]; exact h), raiseMapped_eq]
  rfl

theorem formPlacement_of_not_watching (h : s.sc.session ≠ .watching) :
    formPlacement s =
      { s with rw := (formPlacement s).rw, cq := (formPlacement s).cq, au := (formPlacement s).au } := by
  unfold formPlacement
  split
  · rfl
  · split
    · rfl
    · rfl
    · exact ringFinished_of_not_watching h

/-- Outside WATCHING the Ring Writer touches its own state, the queue and the Alert Unit. -/
theorem takeHead_of_not_watching (h : s.sc.session ≠ .watching) :
    takeHead s = { s with rw := (takeHead s).rw, cq := (takeHead s).cq, au := (takeHead s).au } := by
  unfold takeHead
  split
  · exact formPlacement_of_not_watching h
  · rfl

/-! ### The STOP record and the end of STOPPING (R51, R52) -/

theorem offerStop_of_not_watching (h : s.sc.session ≠ .watching) :
    ∃ x, offerStop s =
      { s with sc := { s.sc with stopRecord := x }, cq := (offerStop s).cq, rbl := (offerStop s).rbl,
               rw := (offerStop s).rw, au := (offerStop s).au } := by
  unfold offerStop
  split
  · exact ⟨.placed, rfl⟩
  · split
    case h_1 u hu =>
      obtain ⟨-, heq⟩ := admitBundle_some hu
      have hw : u.sc.session ≠ .watching := by
        rw [heq]
        exact h
      refine ⟨.placed, ?_⟩
      rw [takeHead_of_not_watching (s := { u with sc := { u.sc with stopRecord := .placed } }) hw, heq]
    case h_2 => exact ⟨.due, rfl⟩

/-- The progress of STOPPING touches the STOP record, the queue, the Ring Writer and the Alert Unit. -/
theorem stopProgress_eq (s : State) :
    ∃ x, stopProgress s =
      { s with sc := { s.sc with stopRecord := x }, cq := (stopProgress s).cq, rbl := (stopProgress s).rbl,
               rw := (stopProgress s).rw, au := (stopProgress s).au } := by
  unfold stopProgress
  split
  case isTrue hs =>
    have hoffer := offerStop_of_not_watching (s := s) (by rw [hs]; decide)
    split
    · split
      · exact ⟨s.sc.stopRecord, rfl⟩
      · exact hoffer
    · split
      · exact hoffer
      · exact ⟨s.sc.stopRecord, rfl⟩
    · exact ⟨s.sc.stopRecord, rfl⟩
  case isFalse => exact ⟨s.sc.stopRecord, rfl⟩

theorem stopProgress_hold (s : State) : (stopProgress s).hold = s.hold := by
  obtain ⟨x, hx⟩ := stopProgress_eq s
  rw [hx]

theorem stopComplete_eq (s : State) :
    ∃ x, stopComplete s = { s with sc := { s.sc with session := x }, au := (stopComplete s).au } := by
  unfold stopComplete
  split
  · rw [raiseMapped_eq]
    exact ⟨.stopped, rfl⟩
  · exact ⟨s.sc.session, rfl⟩

theorem stopComplete_hold (s : State) : (stopComplete s).hold = s.hold := by
  obtain ⟨x, hx⟩ := stopComplete_eq s
  rw [hx]

theorem arbitrate_hold (s : State) : (arbitrate s).hold = s.hold := by
  unfold arbitrate
  repeat' split
  all_goals rfl

theorem State.SoundBut.offerStop (h : s.SoundBut k) : (offerStop s).SoundBut k := by
  unfold Machine.offerStop
  split
  · exact h.congr rfl rfl rfl rfl rfl fun _ => .inl
  · split
    case h_1 hu =>
      have hadmit := h.admitBundle (b := .stop s.tb.ticks s.sc.reason) (show 3 ≤ 12 by decide) hu
      exact State.SoundBut.takeHead (hadmit.congr rfl rfl rfl rfl rfl fun _ => .inl)
    case h_2 => exact h.congr rfl rfl rfl rfl rfl fun _ => .inl

theorem State.SoundBut.stopProgress (h : s.SoundBut k) : (stopProgress s).SoundBut k := by
  unfold Machine.stopProgress
  split
  · split
    · split
      · exact h
      · exact h.offerStop
    · split
      · exact h.offerStop
      · exact h
    · exact h
  · exact h

theorem State.SoundBut.stopComplete (h : s.SoundBut k) : (stopComplete s).SoundBut k := by
  unfold Machine.stopComplete
  split
  case isTrue hs =>
    refine State.SoundBut.raiseMapped (h.setSession fun _ => h.session ?_) _ _
    rw [hs.1]
    decide
  case isFalse => exact h

theorem State.SoundBut.arbitrate (h : s.SoundBut k) : (arbitrate s).SoundBut k := by
  unfold Machine.arbitrate
  split
  · exact h
  · split
    · exact h
    · exact h.congr rfl rfl rfl rfl rfl fun _ => .inl
    case h_3 hfq _ => exact h.grantForward hfq _
    case h_4 hfq _ =>
      split
      · exact h.congr rfl rfl rfl rfl rfl fun _ => .inl
      · exact h.grantForward hfq _

/-! ### The end of a step (assumption 7) -/

/-- An operation that keeps the path sound, whatever is in hand, and leaves the slots alone keeps the path intact. -/
theorem State.Intact.map (h : s.Intact) (hf : ∀ k, s.SoundBut k → t.SoundBut k)
    (hslots : t.hold.slots = s.hold.slots) : t.Intact := by
  obtain ⟨hchecked, hs, hcovered⟩ := h
  refine (hf _ hs).intact hchecked fun r hr => ?_
  rw [State.covered, hslots]
  exact hcovered r hr

theorem intact_of_idle (h : s.SoundBut (Acceptance.idle.hand .orphan noSlot)) : s.Intact :=
  State.SoundBut.intact h rfl (by simp)

theorem State.Underway.endLosslessWaits (h : s.Underway) : (Machine.endLosslessWaits s).Underway := by
  obtain ⟨hchecked, st, hst, hs⟩ := h
  obtain hidle | ⟨hsame, -⟩ := hs.endLosslessWaits (by rcases hst with rfl | rfl <;> decide)
  · exact hidle.underway hst rfl
  · exact hsame.underway hst hchecked

theorem State.Intact.endLosslessWaits (h : s.Intact) : (Machine.endLosslessWaits s).Intact := by
  obtain ⟨hchecked, hs, hcovered⟩ := h
  obtain hidle | ⟨hsame, hhold⟩ := hs.endLosslessWaits (by decide)
  · exact intact_of_idle hidle
  · refine hsame.intact hchecked fun r hr => ?_
    rw [State.covered, hhold]
    exact hcovered r hr

/-- A request whose wait is over goes on, and one whose wait stands stays (R32, R96). -/
theorem State.Underway.resumeWait (h : s.Underway) : (resumeWait s).Intact := by
  obtain ⟨hchecked, st, hst, hs⟩ := h
  unfold Machine.resumeWait
  generalize ha : s.rqp.acceptance = a at hchecked hs
  cases a with
  | idle => exact intact_of_idle hs
  | waitLossless tag since o => exact State.SoundBut.intact (a := .waitLossless tag since o) hs rfl (by simp)
  | waitOrphan r =>
    have hm : malformed r = false := by simpa [Acceptance.checked] using hchecked
    have htaken : s.SoundBut ((InHand.nothing (.waitOrphan r) noSlot).take r.tag st) := hs
    obtain ⟨hstate, -, -⟩ := htaken.hand r.tag st (InHand.take_row_same ..)
    dsimp only
    split
    case isTrue ho =>
      obtain rfl : st = .orphan := hstate.symm.trans ho
      exact State.SoundBut.intact (a := .waitOrphan r) hs hchecked (by simp)
    case isFalse ho =>
      obtain rfl : st = .empty := hst.resolve_left fun he => ho (hstate.trans he)
      have hdown := htaken.putDown (InHand.take_row_same ..) (by decide) (by decide)
      rw [InHand.drop_take, InHand.nothing_drop] at hdown
      exact intact_conflictGate hdown hm hstate
  | waitConflict r =>
    have hm : malformed r = false := by simpa [Acceptance.checked] using hchecked
    have htaken : s.SoundBut ((InHand.nothing (.waitConflict r) noSlot).take r.tag .empty) := hs
    obtain ⟨hstate, -, -⟩ := htaken.hand r.tag .empty (InHand.take_row_same ..)
    have hdown := htaken.putDown (InHand.take_row_same ..) (by decide) (by decide)
    rw [InHand.drop_take, InHand.nothing_drop] at hdown
    exact intact_conflictGate hdown hm hstate

/-- The end of a step leaves the path intact. -/
theorem State.Underway.finish (h : s.Underway) : (finish s).Intact := by
  have hresumed := (h.endLosslessWaits.map fun _ hu => hu.stopProgress).resumeWait
  have hstop := hresumed.endLosslessWaits.map (fun _ hu => hu.stopProgress) (by rw [stopProgress_hold])
  have hcomplete := hstop.map (fun _ hu => hu.stopComplete) (by rw [stopComplete_hold])
  exact hcomplete.map (fun _ hu => hu.arbitrate) (congrArg HoldUnit.slots (arbitrate_hold _))

/-- An operation that keeps the path sound, whatever is in hand, followed by the end of its step. -/
theorem State.Intact.finish (h : s.Intact) (hf : ∀ k, s.SoundBut k → t.SoundBut k) : (Machine.finish t).Intact :=
  (h.underway.map hf).finish

end Sys2Proof.Machine
end

section
/-! FAULT, the responses of memory, the events that fall due, and the tick keep the path intact. -/

namespace Sys2Proof.Machine

variable {s t : State} {k : InHand} {tag : Fin 8}

/-- The path rests on the acceptance state, the rows, the Forward Queue, the slots, the session and the queue alone. -/
theorem State.Intact.congr (h : s.Intact) (hport : t.rqp.acceptance = s.rqp.acceptance) (hrows : t.rows = s.rows)
    (hfq : t.fq = s.fq) (hslots : t.hold.slots = s.hold.slots) (hsession : t.sc.session = s.sc.session)
    (hrecords : t.cq.records = s.cq.records) : t.Intact :=
  h.map (fun _ hs => hs.congr hport hrows hfq hslots hsession fun _ hr => .inl (hrecords ▸ hr)) hslots

/-! ### FAULT (R53) -/

theorem State.SoundBut.abandonStop (h : s.SoundBut k) : (abandonStop s).SoundBut k := by
  unfold Machine.abandonStop
  split
  · exact h.congr rfl rfl rfl rfl rfl fun _ => .inl
  · exact h

theorem State.Underway.enterFault (h : s.Underway) : (enterFault s).Underway := by
  unfold Machine.enterFault
  split
  · have hleft := (h.map fun _ hs => hs.leaveWatching soundMake_countLost
      { s.sc with session := .fault, reason := if s.sc.session = .watching then .fault else s.sc.reason }).map
      fun _ hs => hs.discardCounted
    exact hleft.endLosslessWaits.map fun _ hs => hs.abandonStop.raise _ _ _
  · exact h

/-! ### Responses of reads (R14, R37, R127) -/

theorem State.SoundBut.lateMatch (h : s.SoundBut k) (ht : k.row tag = some .issued) :
    (lateMatch tag s).SoundBut k := by
  unfold Machine.lateMatch
  refine State.SoundBut.requestStop (State.SoundBut.notify (State.SoundBut.requestLevel (State.SoundBut.hits ?_ _ _) _)
    ht (by decide) _) _
  exact h.keepRow ht (by decide) fun _ => ⟨rfl, rfl, rfl⟩

/-- The row in hand waits with its built record (R127). -/
theorem State.SoundBut.startWait (h : s.SoundBut k) (ht : k.row tag = some .issued) {x : HitRecord}
    (hx : x.data.length ≤ 8) (status : RespStatus) : (startWait tag x status s).SoundBut (k.drop tag) := by
  have hrow : ({ s.rows[tag] with
      state := .responding, wait := some { record := x, status := status, since := s.tb.ticks } } : Row).Sound := by
    refine ⟨iff_of_true rfl rfl, nofun, (h.rows tag).beats, ?_⟩
    rintro w ⟨⟩
    exact hx
  have hset := h.setRow ht hrow RowState.noConfusion
  have hdown := hset.putDown (InHand.take_row_same ..) RowState.noConfusion RowState.noConfusion
  rwa [InHand.drop_take] at hdown

theorem State.SoundBut.settleRead (h : s.SoundBut k) (ht : k.row tag = some .issued) (status : RespStatus) :
    (settleRead tag status s).SoundBut (k.drop tag) := by
  have hlength := buildHit_data_length (h.rows tag) s.rows[tag].carry (decide (status = .error)) s.rows[tag].holdRefused
  have hdeliver : ∀ u : State, u.SoundBut k →
      (Machine.deliverRow tag status (Machine.clearDebt tag u)).SoundBut (k.drop tag) := fun u hu =>
    (hu.clearDebt ht (by decide)).deliverRow ht status
  unfold Machine.settleRead
  dsimp only
  split
  · split
    · split
      case h_1 ha => exact hdeliver _ (h.admitBundle (hit_length_le hlength) ha).takeHead
      case h_2 =>
        split
        · exact h.startWait ht hlength status
        · exact hdeliver _ h.dropRecord
    · exact hdeliver _ (h.countLost 1)
  · exact h.deliverRow ht status

theorem State.SoundBut.readResponse (h : s.SoundBut k) (ht : k.row tag = some .issued) (status : RespStatus)
    (words : List Word) : (readResponse tag status words s).SoundBut (k.drop tag) := by
  unfold Machine.readResponse
  dsimp only
  split
  · refine State.SoundBut.settleRead (State.SoundBut.lateMatch ?_ ht) ht _
    exact h.keepRow ht (by decide) fun _ => ⟨rfl, rfl, rfl⟩
  · refine State.SoundBut.settleRead ?_ ht _
    exact h.keepRow ht (by decide) fun _ => ⟨rfl, rfl, rfl⟩

/-- What is done with a row that is ISSUED or RESPONDING: it is in hand until it is put down. -/
theorem State.Intact.finishRow (h : s.Intact) {x : RowState} (hx : s.rows[tag].state = x)
    (hcases : x = .issued ∨ x = .responding) (hf : ∀ k, s.SoundBut k → k.row tag = some x → t.SoundBut (k.drop tag)) :
    (Machine.finish t).Intact := by
  have hne : x ≠ .orphan ∧ x ≠ .empty ∧ x ≠ .deciding ∧ x ≠ .queued ∧ x ≠ .parked := by
    rcases hcases with rfl | rfl <;> decide
  obtain ⟨ho, he, hd, hq, hp⟩ := hne
  have hdone := hf _ (h.sound.takeRow hx hq hp) (InHand.take_row_same ..)
  rw [InHand.drop_take, InHand.drop_same (h.sound.row_none hx (Acceptance.hand_row_ne ho he hd tag))] at hdone
  exact (hdone.underway (.inl rfl) h.checked).finish

/-- An orphan's response ends the ORPHAN wait of its tag, if one stands (R32, R43). -/
theorem State.Intact.consumeOrphan (h : s.Intact) (ho : s.rows[tag].state = .orphan) :
    (modifyRow tag (fun _ => Row.empty) s).Underway := by
  obtain ⟨hchecked, hs, -⟩ := h
  have hset := (hs.takeRow ho (by decide) (by decide)).setRow (InHand.take_row_same ..) Row.sound_empty (by decide)
  rw [InHand.take_take] at hset
  by_cases hr : ∃ r, s.rqp.acceptance = .waitOrphan r ∧ r.tag = tag
  · obtain ⟨r, hr, rfl⟩ := hr
    rw [hr] at hset hchecked
    have hhand : ((Acceptance.waitOrphan r).hand .orphan noSlot).take r.tag Row.empty.state =
        (Acceptance.waitOrphan r).hand .empty noSlot := InHand.take_take (.nothing (.waitOrphan r) noSlot) ..
    rw [hhand] at hset
    exact hset.underway (.inr rfl) hchecked
  · have hnone : (s.rqp.acceptance.hand .orphan noSlot).row tag = none := by
      refine hs.row_none ho ?_
      have hstands := not_exists.1 hr
      generalize s.rqp.acceptance = a at hstands
      cases a with
      | idle => exact nofun
      | waitOrphan r =>
        have hne : tag ≠ r.tag := fun he => hstands r ⟨rfl, he.symm⟩
        simp [Acceptance.hand, hne]
      | waitConflict r => simp [Acceptance.hand, Function.update_apply]
      | waitLossless v since o => simp [Acceptance.hand, Function.update_apply]
    have hdown := hset.putDown (InHand.take_row_same ..) (by decide) (by decide)
    rw [InHand.drop_take, InHand.drop_same hnone] at hdown
    exact hdown.underway (.inl rfl) hchecked

theorem State.Intact.forwardedResponse (h : s.Intact) (tag : Fin 8) (status : RespStatus) (words : List Word) :
    (forwardedResponse tag status words s).Intact := by
  unfold Machine.forwardedResponse
  split
  case h_1 hst =>
    split
    · exact h.finishRow hst (.inl rfl) fun _ hs ht => hs.deliverRow ht status
    · exact h.finishRow hst (.inl rfl) fun _ hs ht => hs.readResponse ht status words
  case h_2 hst => exact (h.consumeOrphan hst).finish
  all_goals exact h

/-! ### Responses of ring bursts (R143, R144) -/

theorem State.SoundBut.compareWatermark (h : s.SoundBut k) : (compareWatermark s).SoundBut k := by
  unfold Machine.compareWatermark
  split
  · refine State.SoundBut.raiseMapped ?_ _ _
    exact h.congr rfl rfl rfl rfl rfl fun _ => .inl
  · exact h

theorem State.SoundBut.publish (h : s.SoundBut k) (p : Placement) : (publish p s).SoundBut k := by
  unfold Machine.publish
  refine State.SoundBut.compareWatermark ?_
  refine h.congr rfl rfl rfl rfl rfl fun r hr => .inl ?_
  dsimp only at hr
  split at hr
  · exact hr
  · exact List.mem_of_mem_tail hr

theorem State.SoundBut.burstDone (h : s.SoundBut k) (b : Burst) : (burstDone b s).SoundBut k := by
  unfold Machine.burstDone
  dsimp only
  split
  · split
    · refine State.SoundBut.takeHead (State.SoundBut.publish ?_ _)
      exact h.congr rfl rfl rfl rfl rfl fun _ => .inl
    · exact h.congr rfl rfl rfl rfl rfl fun _ => .inl
  · exact h.congr rfl rfl rfl rfl rfl fun _ => .inl

theorem State.Intact.ringResponse (h : s.Intact) (status : RespStatus) : (ringResponse status s).Intact := by
  unfold Machine.ringResponse
  split
  · exact h
  · split
    · exact h.finish fun _ hs => hs.burstDone _
    · refine State.Underway.finish (State.Underway.enterFault ?_)
      exact h.underway.map fun _ hs => hs.congr rfl rfl rfl rfl rfl fun _ => .inl
    all_goals
      refine h.finish fun _ hs => State.SoundBut.takeHead ?_
      exact hs.congr rfl rfl rfl rfl rfl fun _ => .inl

/-! ### Events that fall due -/

theorem State.Intact.gatePass (h : s.Intact) : (gatePass s).Intact := by
  unfold Machine.gatePass
  split
  case h_1 tag since o ha =>
    split
    · have hs := h.sound
      rw [ha] at hs
      have htaken : ({ s with rqp := { s.rqp with acceptance := .idle } } : State).SoundBut
          ((InHand.nothing .idle noSlot).take tag .deciding) := hs.setPort { s.rqp with acceptance := .idle }
      exact (intact_passGate htaken o).underway.finish
    · exact h
  all_goals exact h

theorem State.Intact.placeWaiting (h : s.Intact) (tag : Fin 8) : (placeWaiting tag s).Intact := by
  unfold Machine.placeWaiting
  split
  case h_1 w hst hw =>
    split
    · split
      case h_1 ha =>
        refine h.finishRow hst (.inr rfl) fun k hs ht => ?_
        have hplaced := (hs.admitBundle (hit_length_le ((h.sound.rows tag).data w hw)) ha).takeHead
        exact (hplaced.clearDebt ht (by decide)).deliverRow ht w.status
      case h_2 => exact h
    · exact h
  case h_2 => exact h

theorem State.Intact.reofferStop (h : s.Intact) : (reofferStop s).Intact := by
  unfold Machine.reofferStop
  split
  · exact h.finish fun _ hs => hs.offerStop
  · exact h

/-- The record of a lossless wait that reaches the stall limit is dropped (R128). -/
theorem State.SoundBut.stallDrop (h : s.SoundBut k) {st : RowState} (ht : k.row tag = some st) (hne : st ≠ .empty) :
    (stallDrop tag s).SoundBut k := by
  unfold Machine.stallDrop
  dsimp only
  refine State.SoundBut.clearDebt (State.SoundBut.raiseMapped ?_ _ _) ht hne
  exact h.dropRecord.congr rfl rfl rfl rfl rfl fun _ => .inl

theorem State.Intact.stallWrite (h : s.Intact) (tag : Fin 8) : (stallWrite tag s).Intact := by
  unfold Machine.stallWrite
  split
  case h_1 waiting since o ha =>
    split
    case isTrue hdue =>
      obtain ⟨rfl, -⟩ := hdue
      have hs := h.sound
      rw [ha] at hs
      have htaken : s.SoundBut ((InHand.nothing (.waitLossless waiting since o) noSlot).take waiting .deciding) := hs
      exact (intact_decideRequest (htaken.stallDrop (InHand.take_row_same ..) (by decide)) o).underway.finish
    case isFalse => exact h
  all_goals exact h

theorem State.Intact.stallRead (h : s.Intact) (tag : Fin 8) : (stallRead tag s).Intact := by
  unfold Machine.stallRead
  split
  case h_1 w hst _ =>
    split
    · exact h.finishRow hst (.inr rfl) fun _ hs ht => (hs.stallDrop ht (by decide)).deliverRow ht w.status
    · exact h
  case h_2 => exact h

theorem State.Intact.stallTimeout (h : s.Intact) (tag : Fin 8) : (stallTimeout tag s).Intact := by
  unfold Machine.stallTimeout
  split
  · exact h.stallRead tag
  all_goals exact h.stallWrite tag

theorem State.Intact.expireCounters (h : s.Intact) : (expireCounters s).Intact := by
  unfold Machine.expireCounters
  split
  · exact h.finish fun _ hs => hs.counterEvent _
  · exact h

/-- A release that leaves the session as it was leaves nothing to release. -/
theorem State.SoundBut.releaseOne {make : HitRecord → State → State} (hm : SoundMake make) (h : s.SoundBut k)
    (n : Fin 2) (d : Disposition) (words : List Word) : (Machine.releaseSlot make n d words s).SoundBut k :=
  (h.releaseSlot hm n d words).withSlot fun hw m p hp => ((h.releaseSlot hm n d words).session hw m p hp).1

theorem State.Intact.holdExpire (h : s.Intact) (n : Fin 2) : (holdExpire n s).Intact := by
  unfold Machine.holdExpire
  split
  · exact h.finish fun _ hs => (hs.releaseOne (soundMake_makeHit false) n _ _).raise _ _ _
  · exact h

theorem State.Intact.autonomousGap (h : s.Intact) : (autonomousGap s).Intact := by
  unfold Machine.autonomousGap
  split
  · split
    · dsimp only
      refine h.finish fun _ hs => State.SoundBut.takeHead ?_
      rw [append_eq]
      refine hs.congr rfl rfl rfl rfl rfl fun r hr => (List.mem_append.1 hr).imp id fun hg => ?_
      rw [List.mem_singleton.1 hg]
      exact fits_gapRecord _
    · exact h.congr rfl rfl rfl rfl rfl rfl
  · exact h

/-! ### The tick (R63) -/

theorem State.Intact.foldl {α : Type} {f : State → α → State} (hf : ∀ u x, State.Intact u → (f u x).Intact)
    (l : List α) (h : s.Intact) : (l.foldl f s).Intact := by
  induction l generalizing s with
  | nil => exact h
  | cons x l ih => exact ih (hf s x h)

theorem State.Intact.settle (h : s.Intact) : (settle s).Intact := by
  have hplaced := h.gatePass.foldl (f := fun u tag => Machine.placeWaiting tag u) (fun _ tag hu => hu.placeWaiting tag)
    allTags
  have hheld := (hplaced.reofferStop.autonomousGap.expireCounters.holdExpire 0).holdExpire 1
  unfold Machine.settle
  exact hheld.foldl (f := fun u tag => Machine.stallTimeout tag u) (fun _ tag hu => hu.stallTimeout tag) allTags

theorem State.Intact.countTick (h : s.Intact) : (countTick s).Intact := by
  unfold Machine.countTick
  exact h.congr rfl rfl rfl rfl rfl rfl

theorem State.Intact.tick (h : s.Intact) : (tick s).Intact := by
  unfold Machine.tick
  split
  · exact h
  · exact h.settle.countTick

theorem State.Intact.clkCycle (h : s.Intact) : (clkCycle s).Intact := by
  unfold Machine.clkCycle
  split
  · exact h
  · split
    · exact h.tick
    · exact h.congr rfl rfl rfl rfl rfl rfl

end Sys2Proof.Machine
end

section
/-! The invariants of the path and of the records are what is left when nothing but a standing wait is in hand. -/

namespace Sys2Proof.Machine

variable {s t : State} {k : InHand} {tag : Fin 8}

/-! ### The invariant of Safety.lean and the one with nothing but a wait in hand -/

theorem parkedTag_iff {u : Fin 8} : (s.slotTag 0 = some u ∨ s.slotTag 1 = some u) ↔
    ∃ (n : Fin 2) (p : Parked), s.hold.slots[n] = some p ∧ p.tag = u := by
  rw [Fin.exists_fin_two]
  exact or_congr Option.map_eq_some_iff Option.map_eq_some_iff

theorem slotInStep_iff {n : Fin 2} :
    s.slotInStep n = true ↔ ∀ p, s.hold.slots[n] = some p → p.copies s.rows[p.tag] := by
  unfold State.slotInStep
  cases s.hold.slots[n] with
  | none => exact iff_of_true rfl nofun
  | some p => simp only [decide_eq_true_eq, Option.some.injEq, forall_eq', Parked.copies]

/-- Two slots that hold transactions hold two tags and two tickets (R82, R83). -/
theorem apart_iff :
    (∀ (n m : Fin 2) (p q : Parked), s.hold.slots[n] = some p → s.hold.slots[m] = some q →
      p.tag = q.tag ∨ p.ticket = q.ticket → n = m) ↔
    (s.slotTag 0 ≠ none → s.slotTag 0 ≠ s.slotTag 1) ∧
      (s.slotTag 0 ≠ none → s.hold.slots[0].map (·.ticket) ≠ s.hold.slots[1].map (·.ticket)) := by
  simp only [State.slotTag, Fin.forall_fin_two]
  have h0 : s.hold.slots[(0 : Fin 2)] = s.hold.slots[0] := rfl
  have h1 : s.hold.slots[(1 : Fin 2)] = s.hold.slots[1] := rfl
  rw [h0, h1]
  cases s.hold.slots[0] <;> cases s.hold.slots[1] <;> simp [eq_comm]

/-- What the acceptance state says of the rows (R31). -/
theorem portSound_iff : s.portSound = true ↔
    ((s.rqp.acceptance.checked = true ∧ ∀ r, s.rqp.acceptance = .waitConflict r → s.covered r.address = true) ∧
      (∀ u x, (s.rqp.acceptance.hand .orphan noSlot).row u = some x → s.rows[u].state = x) ∧
      ∀ u : Fin 8, s.rows[u].state = .deciding → (s.rqp.acceptance.hand .orphan noSlot).row u = some .deciding) := by
  unfold State.portSound
  cases s.rqp.acceptance with
  | idle => simp [Acceptance.checked, Acceptance.hand]
  | waitOrphan r =>
    simp [Acceptance.checked, Acceptance.hand, Function.update_apply]
    tauto
  | waitConflict r =>
    simp [Acceptance.checked, Acceptance.hand, Function.update_apply]
    tauto
  | waitLossless v since o =>
    simp only [Acceptance.checked, Acceptance.hand, Function.update_apply, decide_eq_true_eq]
    constructor
    · refine fun h => ⟨⟨trivial, nofun⟩, fun u x hx => ?_, fun u hu => if_pos ((h u).1 hu)⟩
      split at hx
      case isTrue hu =>
        cases hx
        exact (h u).2 hu
      case isFalse => cases hx
    · rintro ⟨-, hrow, hdeciding⟩ u
      refine ⟨fun hu => ?_, fun hu => hrow u _ (if_pos hu)⟩
      by_contra hne
      have hnone := hdeciding u hu
      rw [if_neg hne] at hnone
      cases hnone

/-- The invariants of the path and of the records (R28 to R31, R35, R50, R82, R104). -/
theorem intact_iff : s.Intact ↔ s.pathSound ∧ s.recordsSound := by
  constructor
  · rintro ⟨hchecked, ⟨-, nodup, queued, hand, parked, deciding, apart, inStep, session, rows, records⟩, hcovered⟩
    have hparked : ∀ u, (s.rqp.acceptance.hand .orphan noSlot).row u ≠ some .parked :=
      Acceptance.hand_row_ne (by decide) (by decide) (by decide)
    obtain ⟨htags, htickets⟩ := apart_iff.1 apart
    refine ⟨⟨⟨nodup, queued⟩,
      ⟨fun u => ?parked, htags, htickets, fun n => slotInStep_iff.2 (inStep n), fun hw => ?free⟩,
      ?port, fun u => (rows u).wait, fun u => (rows u).empty⟩,
      records, fun u => (rows u).beats, fun u => ?data, hchecked⟩
    case parked => rw [parked u, or_iff_right (hparked u), parkedTag_iff]
    case free =>
      have hfree : ∀ n, s.slotTag n = none := fun n => by
        rw [State.slotTag, Option.map_eq_none_iff, Option.eq_none_iff_forall_not_mem]
        exact fun p hp => session hw n p hp
      exact ⟨hfree 0, hfree 1⟩
    case port =>
      exact portSound_iff.2 ⟨⟨hchecked, hcovered⟩, fun u x hx => (hand u x hx).1, deciding⟩
    case data =>
      rw [Option.all_eq_true]
      exact fun w hw => decide_eq_true ((rows u).data w hw)
  · rintro ⟨⟨⟨nodup, queued⟩, ⟨parked, htags, htickets, inStep, session⟩, hport, waits, empty⟩, records, beats, data, -⟩
    obtain ⟨⟨hchecked, hcovered⟩, hrow, hdeciding⟩ := portSound_iff.1 hport
    have hne : ∀ {x : RowState} (_ : x ≠ .orphan) (_ : x ≠ .empty) (_ : x ≠ .deciding) (u : Fin 8),
        (s.rqp.acceptance.hand .orphan noSlot).row u ≠ some x := Acceptance.hand_row_ne
    refine ⟨hchecked, ⟨rfl, nodup, queued, fun u x hx => ⟨hrow u x hx, ?queued, fun n p hp hpt => ?slot⟩,
      fun u => ?parked, hdeciding, apart_iff.2 ⟨htags, htickets⟩, fun n => slotInStep_iff.1 (inStep n),
      fun hw n p hp => ?session,
      fun u => ⟨waits u, empty u, beats u, fun w hw => ?data⟩, records⟩, hcovered⟩
    case queued =>
      rintro rfl
      exact hne (by decide) (by decide) (by decide) u hx
    case slot =>
      have hu := (parked u).2 (parkedTag_iff.2 ⟨n, p, hp, hpt⟩)
      rw [hrow u x hx] at hu
      rw [hu] at hx
      exact hne (by decide) (by decide) (by decide) u hx
    case parked =>
      rw [or_iff_right (hne (by decide) (by decide) (by decide) u), parked u, parkedTag_iff]
    case session =>
      obtain ⟨h0, h1⟩ := session hw
      have hsome := parkedTag_iff.2 ⟨n, p, hp, rfl⟩
      rw [h0, h1] at hsome
      simp at hsome
    case data => simpa using (Option.all_eq_true _ _).1 (data u) w hw

end Sys2Proof.Machine
end

section
/-! Every command keeps the path intact (obligation O58). -/

namespace Sys2Proof.Machine

variable {s t : State} {k : InHand} {tag : Fin 8}

/-! ### Requests and resets (R31, R42, R172) -/

theorem State.Intact.execRequest (h : s.Intact) {r : Option Request} (he : execRequest r s = .next t) : t.Intact := by
  have hpresented : ({ s with rqp := { s.rqp with presented := s.rqp.presented ++ r.toList } } : State).Intact :=
    h.congr rfl rfl rfl rfl rfl rfl
  cases he
  split
  · exact (intact_readOldest hpresented).underway.finish
  · exact hpresented

/-- A row at a path reset is EMPTY or ORPHAN (TABLE 2.3). -/
theorem Row.pathReset_state (r : Row) : r.pathReset.state = .empty ∨ r.pathReset.state = .orphan := by
  unfold Row.pathReset
  cases hs : r.state <;> simp [Row.empty, hs]

theorem Row.Sound.pathReset {r : Row} (h : r.Sound) : r.pathReset.Sound := by
  unfold Row.pathReset
  split
  case h_5 hs => exact (h.withState (st := .orphan) (by rw [hs]; decide) (by decide) (by decide)).same rfl rfl rfl nofun
  case h_6 => exact h
  case h_7 => exact h
  all_goals exact Row.sound_empty

/-- With the slots, the Forward Queue and the port empty, rows that are EMPTY or ORPHAN are sound. -/
theorem soundBut_of_cleared (hport : s.rqp.acceptance = .idle) (hfq : s.fq = [])
    (hslots : ∀ n : Fin 2, s.hold.slots[n] = none)
    (hrows : ∀ u : Fin 8, (s.rows[u].state = .empty ∨ s.rows[u].state = .orphan) ∧ s.rows[u].Sound)
    (hrecords : ∀ r ∈ s.cq.records, r.fits) : s.SoundBut (.nothing .idle noSlot) := by
  have hne : ∀ (u : Fin 8) {x : RowState}, x ≠ .empty → x ≠ .orphan → s.rows[u].state ≠ x := fun u x he ho hx =>
    (hrows u).1.elim (fun h => he (hx.symm.trans h)) fun h => ho (hx.symm.trans h)
  constructor
  case port => exact hport
  case nodup => rw [hfq]; exact List.nodup_nil
  case queued => exact fun u => iff_of_false (by simp [hfq]) (hne u (by decide) (by decide))
  case hand => exact nofun
  case parked =>
    intro u
    refine iff_of_false (hne u (by decide) (by decide)) ?_
    rintro (hnone | ⟨n, p, hp, -⟩)
    · cases hnone
    · cases (hslots n).symm.trans hp
  case deciding => exact fun u hu => absurd hu (hne u (by decide) (by decide))
  case rows => exact fun u => (hrows u).2
  case records => exact hrecords
  case session => exact fun _ n p hp => nomatch (hslots n).symm.trans hp
  all_goals exact fun n => by simp [hslots]

theorem State.Intact.pathReset (h : s.Intact) : (pathReset s).Intact := by
  have hclear : (clearPath s).SoundBut (.nothing .idle noSlot) := by
    refine soundBut_of_cleared rfl rfl (fun n => by simp [clearPath]) (fun u => ?_) h.sound.records
    have hrow : (clearPath s).rows[u] = s.rows[u].pathReset := mapRows_getElem s Row.pathReset u.val u.isLt
    rw [hrow]
    exact ⟨Row.pathReset_state _, (h.sound.rows u).pathReset⟩
  unfold Machine.pathReset
  split
  · exact h
  · exact (intact_of_idle (hclear.raiseMapped _ _)).underway.finish

theorem intact_resetPart (s : State) : (resetPart s).Intact := by
  refine intact_of_idle (soundBut_of_cleared rfl rfl (fun n => by simp [resetPart, State.reset]) (fun u => ?_) nofun)
  have hrow : (resetPart s).rows[u] = Row.empty := by simp [resetPart, State.reset]
  rw [hrow]
  exact ⟨.inl rfl, Row.sound_empty⟩

/-- The lines and the Management Port are no part of the path. -/
theorem State.Intact.withLines (h : s.Intact) (x : Lines) : ({ s with lines := x } : State).Intact :=
  h.congr rfl rfl rfl rfl rfl rfl

theorem State.Intact.endPathReset (h : s.Intact) : (endPathReset s).Intact := by
  unfold Machine.endPathReset
  split
  · exact (intact_readOldest (h.withLines _)).underway.finish
  · exact h

theorem State.Intact.releaseReset (h : s.Intact) : (releaseReset s).Intact := by
  unfold Machine.releaseReset
  split
  · exact (intact_readOldest (h.withLines _)).underway.finish
  · exact h

theorem State.Intact.assertCs (h : s.Intact) : (assertCs s).Intact := by
  unfold Machine.assertCs
  split
  · exact h
  · dsimp only
    split <;> exact h.congr rfl rfl rfl rfl rfl rfl

theorem State.Intact.deassertCs (h : s.Intact) (f : FrameState) : (deassertCs f s).Intact := by
  unfold Machine.deassertCs
  split
  · exact h.congr rfl rfl rfl rfl rfl rfl
  · exact h

/-! ### Commands of the Management Port -/

theorem State.Intact.takeCommand {n : Nat} {act : State → State × List Byte} (h : s.Intact)
    (hact : (act s).1.Intact) : (takeCommand n act s).Intact := by
  unfold Machine.takeCommand
  split
  · exact hact.congr rfl rfl rfl rfl rfl rfl
  · exact h

/-- Outside WATCHING no slot is PARKED, and no request is in the CONFLICT wait (R50, R95). -/
theorem State.Intact.no_conflict (h : s.Intact) (hw : s.sc.session ≠ .watching) (r : Request) :
    s.rqp.acceptance ≠ .waitConflict r := by
  intro hr
  have hc := h.covered r hr
  simp only [State.covered, List.any_eq_true, Vector.mem_toList_iff, Vector.mem_iff_getElem] at hc
  obtain ⟨x, ⟨n, hn, rfl⟩, hx⟩ := hc
  cases hp : s.hold.slots[n] with
  | none => simp [hp] at hx
  | some p => exact h.sound.session hw ⟨n, hn⟩ p hp

theorem State.Intact.arm (h : s.Intact) : (arm s).1.Intact := by
  unfold Machine.arm
  split
  case isTrue hoff =>
    split
    · have hw : s.sc.session ≠ .watching := by rcases hoff with hs | hs <;> rw [hs] <;> decide
      have harm : (armSession s).SoundBut (s.rqp.acceptance.hand .orphan noSlot) := by
        have hrows := h.sound.mapRows (f := fun r => { r with owed := false }) rfl fun _ => ⟨rfl, rfl, rfl, fun _ => id⟩
        have hsession := hrows.setSession (c := (armSession s).sc) fun hn => absurd rfl hn
        refine hsession.congr rfl rfl rfl rfl rfl fun r hr => ?_
        rw [List.mem_singleton.1 hr]
        exact .inr (show 1 ≤ 2 ∧ 2 ≤ 12 by decide)
      exact (harm.takeHead.arbitrate).intact h.checked fun r hr => absurd hr (h.no_conflict hw r)
    · exact h
  case isFalse => exact h

/-- READ moves in LOOP mode only, in which no head record finds the ring finished (R138, R145). -/
theorem formPlacement_hold_of_loop (h : s.rw.mode = .loop) : (formPlacement s).hold = s.hold := by
  unfold formPlacement
  split
  · rfl
  · split
    case h_3 x _ _ hx =>
      unfold RingWriter.choose at hx
      rw [h] at hx
      dsimp only at hx
      repeat' split at hx
      all_goals cases hx
    all_goals rfl

theorem State.Intact.moveRead (h : s.Intact) (hm : s.rw.mode = .loop) (v : Word) : (moveRead v s).Intact := by
  have hread : ∀ x : RingWriter, ({ s with rw := x } : State).Intact := fun x => h.congr rfl rfl rfl rfl rfl rfl
  have hform : ∀ u : State, u.Intact → u.rw.mode = .loop →
      (if u.rw.writer = .waitSpace then formPlacement u else u).Intact := fun u hu hloop => by
    split
    · exact hu.map (fun _ hs => hs.formPlacement) (by rw [formPlacement_hold_of_loop hloop])
    · exact hu
  unfold Machine.moveRead
  dsimp only
  refine hform _ ?_ ?_
  · split <;> exact hread _
  · split <;> exact hm

theorem State.Intact.readptr (h : s.Intact) (v : Word) : (readptr v s).1.Intact := by
  unfold Machine.readptr
  split
  case isTrue => exact h
  case isFalse hon =>
    have hloop : s.rw.mode = .loop := by
      cases hm : s.rw.mode with
      | loop => rfl
      | once => exact absurd (.inr hm) hon
    split
    · split
      · exact (h.moveRead hloop v).map (fun _ hs => hs.arbitrate) (congrArg HoldUnit.slots (arbitrate_hold _))
      · exact h
    · exact h

theorem State.Intact.releaseChecked (h : s.Intact) (n : Fin 2) (ticket : Byte) (d : Disposition) (count : Nat)
    (words : List Word) : (releaseChecked n ticket d count words s).1.Intact := by
  unfold Machine.releaseChecked
  split
  · exact h
  split
  · exact h
  split
  · exact h
  split
  · exact h
  · exact h.finish fun _ hs => hs.releaseOne (soundMake_makeHit false) n d words

theorem State.Intact.release (h : s.Intact) (slot ticket disposition count : Byte) (words : List Word) :
    (release slot ticket disposition count words s).1.Intact := by
  unfold Machine.release
  split
  · exact h
  split
  · exact h.releaseChecked _ _ _ _ _
  · exact h

theorem State.Intact.ack (h : s.Intact) : (ack s).1.Intact := by
  unfold Machine.ack
  split
  · exact h
  · split
    · exact h
    · exact h.congr rfl rfl rfl rfl rfl rfl

theorem State.Intact.done (h : s.Intact) : (done s).1.Intact := by
  unfold Machine.done
  split
  · exact h
  · exact h.congr rfl rfl rfl rfl rfl rfl

/-! ### RESTART (R41, R56) -/

theorem State.SoundBut.deliverWaiting (h : s.SoundBut k) (hk : k.row tag ≠ some .responding) :
    (deliverWaiting tag s).SoundBut k := by
  unfold Machine.deliverWaiting
  split
  case h_1 hst _ => exact h.deliverResponding hst hk _
  case h_2 => exact h

theorem State.SoundBut.forwardHeld {a : Acceptance} {st : RowState} {slot : Fin 2 → Prop}
    (h : s.SoundBut (a.hand st slot)) (ha : a.checked = true) :
    ∃ b : Acceptance, b.checked = true ∧ (forwardHeld s).SoundBut (b.hand st slot) := by
  have hport : s.rqp.acceptance = a := h.port
  unfold Machine.forwardHeld
  rw [hport]
  cases a with
  | waitLossless tag since o => exact ⟨.idle, rfl, h.decideHeld _⟩
  | idle | waitOrphan r | waitConflict r => exact ⟨_, ha, h⟩

/-- The blocks outside the path take their values, and every row loses its hit information, with the slots yet to be
released (R41, R56). -/
theorem State.Intact.stripRows (h : s.Intact) :
    (Machine.mapRows Row.strip (restartBlocks s)).SoundBut (s.rqp.acceptance.hand .orphan fun _ => True) := by
  have hopen : s.SoundBut (s.rqp.acceptance.hand .orphan fun _ => True) :=
    h.sound.withSlot fun _ _ _ _ => trivial
  have hblocks : (restartBlocks s).SoundBut (s.rqp.acceptance.hand .orphan fun _ => True) := by
    unfold restartBlocks
    refine (hopen.setSession (c := { s.sc with
      session := .off, level := s.sc.startLevel, reason := .none, stopRecord := .notDue }) fun _ _ _ _ => trivial).congr
      rfl rfl rfl rfl rfl nofun
  exact hblocks.mapRows rfl fun _ => ⟨rfl, rfl, rfl, fun _ => id⟩

theorem State.Intact.restart (h : s.Intact) : (restart s).1.Intact := by
  have hstripped := h.stripRows
  unfold Machine.restart accept
  dsimp only
  generalize Machine.mapRows Row.strip (restartBlocks s) = u at hstripped ⊢
  have hdelivered := hstripped.foldl (f := fun v x => Machine.deliverWaiting x v)
    (fun v x hv => hv.deliverWaiting (Acceptance.hand_row_ne (by decide) (by decide) (by decide) x)) allTags
  obtain ⟨b, hb, hheld⟩ := hdelivered.forwardHeld h.checked
  have hreleased := State.SoundBut.releaseBoth (k := b.hand .orphan noSlot) (soundMake_makeHit false) hheld
  exact State.Underway.finish (hreleased.underway (.inl rfl) hb)

/-! ### The other session commands -/

theorem State.Intact.stop (h : s.Intact) : (stop s).1.Intact := by
  unfold Machine.stop
  split
  · exact h.finish fun _ hs => hs.stopRequest _
  · exact h

theorem State.Intact.clear (h : s.Intact) : (clear s).1.Intact := by
  unfold Machine.clear
  split
  case isTrue hf =>
    exact h.map (fun _ hs => hs.setSession fun _ => hs.session (by rw [hf]; decide)) rfl
  case isFalse => exact h

theorem State.Intact.level (h : s.Intact) (v : Byte) : (level v s).1.Intact := by
  unfold Machine.level
  split
  · split
    · exact h.finish fun _ hs => hs.levelRequest _ _ _
    · exact h
  · exact h

theorem State.Intact.mark (h : s.Intact) (v : Word) : (mark v s).1.Intact := by
  unfold Machine.mark
  split
  · split
    case h_1 ha => exact h.finish fun _ hs => (hs.admitBundle (b := .mark v) (show 2 ≤ 12 by decide) ha).takeHead
    case h_2 => exact h
  · exact h

/-! ### PUT, ENABLE and DISABLE -/

theorem State.Intact.putSession (h : s.Intact) (b : Bytes 4) : (putSession b s).1.Intact := by
  unfold Machine.putSession
  split
  · split
    · exact h.congr rfl rfl rfl rfl rfl rfl
    · exact h
  · exact h

theorem State.Intact.putRing (h : s.Intact) (b : Bytes 13) : (putRing b s).1.Intact := by
  unfold Machine.putRing
  split
  · exact h
  · split
    · exact h.congr rfl rfl rfl rfl rfl rfl
    · exact h

theorem State.Intact.expireBoth (h : s.Intact) : (expireBoth s).Intact := by
  have hchosen : ({ s with choices := s.choices + 1 } : State).Intact := h.congr rfl rfl rfl rfl rfl rfl
  unfold Machine.expireBoth
  split
  · dsimp only
    split
    · exact (hchosen.holdExpire 1).holdExpire 0
    · exact (hchosen.holdExpire 0).holdExpire 1
  · exact (h.holdExpire 0).holdExpire 1

theorem State.Intact.putHold (h : s.Intact) (b : Bytes 5) : (putHold b s).1.Intact := by
  unfold Machine.putHold
  split
  · refine State.Intact.expireBoth ?_
    exact h.congr rfl rfl rfl rfl rfl rfl
  · exact h

theorem State.Intact.putTimebase (h : s.Intact) (b : Bytes 1) : (putTimebase b s).1.Intact := by
  unfold Machine.putTimebase
  split
  · exact h
  · split
    · exact h.congr rfl rfl rfl rfl rfl rfl
    · exact h

theorem State.Intact.putAlertmap (h : s.Intact) (b : Bytes 9) : (putAlertmap b s).1.Intact := by
  unfold Machine.putAlertmap
  split
  · exact h.congr rfl rfl rfl rfl rfl rfl
  · exact h

theorem State.Intact.putEntry (h : s.Intact) (n : Fin 16) (b : Bytes 28) : (putEntry n b s).1.Intact := by
  have hwrite : ∀ e, (writeEntry n e s).Intact := fun e => by
    have hentry : ({ s with entries := s.entries.set n e } : State).Intact := h.congr rfl rfl rfl rfl rfl rfl
    exact hentry.map (fun _ hs => hs.mapRows (by simp [Row.empty]) fun _ => ⟨rfl, rfl, rfl, fun _ => id⟩) rfl
  unfold Machine.putEntry
  split
  · exact h
  · split
    · split
      · exact h
      · exact hwrite _
    · exact h

theorem State.Intact.putCounter (h : s.Intact) (n : Fin 4) (b : Bytes 11) : (putCounter n b s).1.Intact := by
  unfold Machine.putCounter
  split
  · exact h
  · split
    · split
      · exact h.congr rfl rfl rfl rfl rfl rfl
      · exact h
    · exact h.congr rfl rfl rfl rfl rfl rfl

theorem State.Intact.setEnabled (h : s.Intact) (n : Byte) (on : Bool) : (setEnabled n on s).1.Intact := by
  unfold Machine.setEnabled
  split
  · exact h.congr rfl rfl rfl rfl rfl rfl
  · exact h

/-! ### Every command -/

theorem intact_exec {c : Instr} (h : s.Intact) (he : exec c s = .next t) : t.Intact := by
  cases c with
  | request r => exact h.execRequest he
  | losslessGatePass => cases he; exact h.gatePass
  | respondingRecordPlaced tag => cases he; exact h.placeWaiting tag
  | stopRecordReoffer => cases he; exact h.reofferStop
  | losslessStallTimeout tag => cases he; exact h.stallTimeout tag
  | responseDelivery n =>
    cases he
    split
    · exact h.congr rfl rfl rfl rfl rfl rfl
    · exact h
  | memoryResponse m =>
    cases he
    split
    · exact h.forwardedResponse _ _ _
    · exact h.ringResponse _
  | portReturnToReady =>
    cases he
    split
    · have hready : ({ s with mpa := { s.mpa with port := .ready } } : State).Intact := h.congr rfl rfl rfl rfl rfl rfl
      exact hready.map (fun _ hs => hs.arbitrate) (congrArg HoldUnit.slots (arbitrate_hold _))
    · exact h
  | tick => cases he; exact h.tick
  | counterExpiry => cases he; exact h.expireCounters
  | holdTimeout n => cases he; exact h.holdExpire n
  | autonomousGap => cases he; exact h.autonomousGap
  | pathReset => cases he; exact h.pathReset
  | prstDeasserted => cases he; exact h.endPathReset
  | deviceReset | powerOn => cases he; exact intact_resetPart s
  | resetRelease => cases he; exact h.releaseReset
  | truncatedFrame | frameEnd | csDeassertedAfterReset => cases he; exact h.deassertCs _
  | frameStart => cases he; exact h.assertCs
  | unknownCommand code | getUnknownItem code =>
    cases he
    split
    · exact h
    · exact h.takeCommand h
  | getEntry n =>
    cases he
    exact h.takeCommand (by cases entryNumber n <;> exact h)
  | putUnsupportedItem code =>
    cases he
    split
    · split
      · exact h.takeCommand h
      · exact h
    · exact h.takeCommand h
  | status | getSession | getRing | getHold | getTimebase | getAlertmap | getTotals | getCounter | getSlot
  | getInflight => cases he; exact h.takeCommand h
  | putSession b => cases he; exact h.takeCommand (h.putSession b)
  | putRing b => cases he; exact h.takeCommand (h.putRing b)
  | putHold b => cases he; exact h.takeCommand (h.putHold b)
  | putTimebase b => cases he; exact h.takeCommand (h.putTimebase b)
  | putAlertmap b => cases he; exact h.takeCommand (h.putAlertmap b)
  | putEntry n b => cases he; exact h.takeCommand (h.putEntry n b)
  | putCounter n b => cases he; exact h.takeCommand (h.putCounter n b)
  | enable n => cases he; exact h.takeCommand (h.setEnabled n true)
  | disable n => cases he; exact h.takeCommand (h.setEnabled n false)
  | arm => cases he; exact h.takeCommand h.arm
  | stop => cases he; exact h.takeCommand h.stop
  | restart => cases he; exact h.takeCommand h.restart
  | clear => cases he; exact h.takeCommand h.clear
  | level v => cases he; exact h.takeCommand (h.level v)
  | readptr v => cases he; exact h.takeCommand (h.readptr v)
  | mark v => cases he; exact h.takeCommand (h.mark v)
  | release slot ticket disposition count words =>
    cases he
    split
    · exact h
    · exact h.takeCommand (h.release slot ticket disposition count words)
  | ack => cases he; exact h.takeCommand h.ack
  | done => cases he; exact h.takeCommand h.done

theorem intact_step (h : s.Intact) (hs : step s = .next t) : t.Intact := by
  unfold step at hs
  split at hs
  · refine intact_exec ?_ hs
    exact h.congr rfl rfl rfl rfl rfl rfl
  · cases hs
    exact h.clkCycle

end Sys2Proof.Machine

namespace Sys2Proof.Proofs.MemoryPath

open Sys2Proof.Machine

/-- Settles O58: each operation keeps the path sound but for what is in hand, and the end of a step leaves nothing in
hand but a wait that stands. -/
theorem pathInvariant : Obligations.PathInvariant := by
  rintro s t ⟨-, -, hpath, -⟩ hs
  exact intact_iff.1 (intact_step (intact_iff.2 hpath) hs)

end Sys2Proof.Proofs.MemoryPath
end

section
/-! Requests that the Request Port does not take, path resets and the delivery of responses (obligations O35, O7 and
O46). -/

namespace Sys2Proof.Machine

variable {s t : State} {r : Request}

/-! ### The protocol check (R26) -/

theorem size_cases (c : BitVec 2) : c = 0#2 ∨ c = 1#2 ∨ c = 2#2 ∨ c = 3#2 := by
  revert c
  decide

/-- The protocol check for a size that the code names. -/
theorem malformed_of_size {size : Size} (h : sizeOf r.size = some size) :
    malformed r = true ↔
      (r.beats = 1 ∧ r.address.toNat % size.bytes ≠ 0) ∨
      (r.beats ∈ [2, 4, 8] ∧ (size ≠ .word ∨ r.address.toNat % (4 * r.beats) ≠ 0)) ∨ r.beats ∉ [1, 2, 4, 8] := by
  unfold malformed
  rw [h]
  dsimp only
  split
  case isTrue hone => simp [hone]
  case isFalse hone =>
    split
    case isTrue hlegal => simp [hone, hlegal]
    case isFalse hlegal => simp [hone, hlegal]

theorem malformed_of_no_size (h : r.size = 3#2) : malformed r = true := by
  simp [malformed, sizeOf, h]

theorem malformed_iff (h1 : 1 ≤ r.beats) (h8 : r.beats ≤ 8) :
    malformed r = true ↔
      (r.beats ∈ [3, 5, 6, 7] ∨ (1 < r.beats ∧ r.size ∈ [0#2, 1#2]) ∨
        (r.beats = 1 ∧ r.size = 1#2 ∧ r.address.toNat % 2 = 1) ∨
        (r.beats = 1 ∧ r.size = 2#2 ∧ r.address.toNat % 4 ≠ 0) ∨
        (1 < r.beats ∧ r.address.toNat % (4 * r.beats) ≠ 0) ∨ r.size = 3#2) := by
  obtain hs | hs | hs | hs := size_cases r.size
  case inr.inr.inr => simp [malformed_of_no_size hs, hs]
  case inl =>
    rw [malformed_of_size (size := .byte) (by rw [hs]; rfl), hs]
    simp [Size.bytes]
    omega
  case inr.inl =>
    rw [malformed_of_size (size := .half) (by rw [hs]; rfl), hs]
    simp [Size.bytes]
    omega
  case inr.inr.inl =>
    rw [malformed_of_size (size := .word) (by rw [hs]; rfl), hs]
    simp [Size.bytes]
    omega

/-- A request that passes the protocol check is aligned to its byte count, which divides a line (R26). -/
theorem aligned_of_not_malformed (h : malformed r = false) :
    spanBytes r.beats (requestSize r) ∈ [1, 2, 4, 8, 16, 32] ∧
      r.address.toNat % spanBytes r.beats (requestSize r) = 0 := by
  have hnot : ¬ malformed r = true := by rw [h]; decide
  cases hs : sizeOf r.size with
  | none => simp [malformed, hs] at hnot
  | some size =>
    rw [malformed_of_size hs, not_or, not_or, not_and, not_and, not_or, not_not, not_not, not_not] at hnot
    obtain ⟨hsingle, hburst, hlegal⟩ := hnot
    have hsize : requestSize r = size := by rw [requestSize, hs]; rfl
    rw [hsize, spanBytes]
    split
    case isTrue hone =>
      refine ⟨?_, hsingle hone⟩
      cases size <;> decide
    case isFalse hone =>
      have hbeats : r.beats ∈ [2, 4, 8] := (List.mem_cons.1 (not_not.1 hlegal)).resolve_left hone
      refine ⟨?_, (hburst hbeats).2⟩
      simp only [List.mem_cons, List.not_mem_nil, or_false] at hbeats ⊢
      omega

theorem line_of_not_malformed (h : malformed r = false) {n : Nat} (hn : n < spanBytes r.beats (requestSize r)) :
    (r.address.toNat + n) / 32 = r.address.toNat / 32 := by
  obtain ⟨hspan, haligned⟩ := aligned_of_not_malformed h
  generalize spanBytes r.beats (requestSize r) = span at hspan haligned hn
  simp only [List.mem_cons, List.not_mem_nil, or_false] at hspan
  obtain rfl | rfl | rfl | rfl | rfl | rfl := hspan <;> omega

/-! ### Covered lines (R95) -/

theorem covered_iff {a : Word} :
    s.covered a = true ↔
      ∃ (n : Fin 2) (p : Parked), s.hold.slots[n] = some p ∧ p.kind = .write ∧
        p.address.toNat / 32 = a.toNat / 32 := by
  simp only [State.covered, List.any_eq_true, Vector.mem_toList_iff, Vector.mem_iff_getElem]
  constructor
  · rintro ⟨-, ⟨n, hn, rfl⟩, hx⟩
    cases hp : s.hold.slots[n] with
    | none => simp [hp] at hx
    | some p =>
      simp only [hp, Bool.and_eq_true, decide_eq_true_eq] at hx
      exact ⟨⟨n, hn⟩, p, hp, hx⟩
  · rintro ⟨n, p, hp, hx⟩
    refine ⟨some p, ⟨n.val, n.isLt, hp⟩, ?_⟩
    simp only [Bool.and_eq_true, decide_eq_true_eq]
    exact hx

/-! ### Requests that are read and not taken (R26, R27, R32, R95) -/

theorem RowState.live_iff (x : RowState) : x.live = true ↔ x ∈ [.deciding, .queued, .issued, .parked, .responding] := by
  cases x <;> decide

theorem readRequest_of_live (h : s.rows[r.tag].state.live = true) :
    readRequest r s = raiseMapped .portError r.tag.val s := by
  rw [readRequest, if_pos h]

theorem readRequest_of_malformed (h : s.rows[r.tag].state.live = false) (hm : malformed r = true) :
    readRequest r s =
      raiseMapped .portError r.tag.val (respond { status := .error, tag := r.tag, data := [] } s) := by
  rw [readRequest, h, hm]
  rfl

theorem readRequest_of_orphan (h : s.rows[r.tag].state = .orphan) (hm : malformed r = false) :
    readRequest r s = { s with rqp := { s.rqp with acceptance := .waitOrphan r } } := by
  rw [readRequest, h, hm]
  rfl

theorem readRequest_of_empty (h : s.rows[r.tag].state = .empty) (hm : malformed r = false) :
    readRequest r s = conflictGate r s := by
  rw [readRequest, h, hm]
  rfl

theorem conflictGate_of_covered (h : s.covered r.address = true) :
    conflictGate r s = { s with rqp := { s.rqp with acceptance := .waitConflict r } } := by
  rw [conflictGate, if_pos h]

/-- Causes leave a state at rest. -/
theorem atRest_raiseMapped (h : s.atRest) (c : CauseKind) (i : Nat) : (raiseMapped c i s).atRest := by
  rw [raiseMapped_eq]
  exact h

/-- A state at rest stays so when the Request Port, with no request in hand, takes one whose wait stands. -/
theorem atRest_setPort (h : s.atRest) {x : RequestPort} (hw : ({ s with rqp := x } : State).waitStands = true) :
    ({ s with rqp := x } : State).atRest := by
  obtain ⟨-, hresp, hstop, hgrant⟩ := h
  exact ⟨hw, hresp, hstop, hgrant⟩

/-- What a request that is read leaves at rest stands as the next state. -/
theorem exec_request_of_rest {u : State} (h : s.readyFor) (hu : readRequest r s = u) (hrest : u.atRest) :
    exec (.request (some r)) s = .next u := by
  rw [exec_request_of_readyFor r h, hu, finish_of_atRest hrest]

theorem exec_request_of_not_mayRead (h : s.mayRead = false) :
    exec (.request (some r)) s = .next { s with rqp := { s.rqp with presented := s.rqp.presented ++ [r] } } := by
  have hread : ({ s with rqp := { s.rqp with presented := s.rqp.presented ++ [r] } } : State).mayRead = false := h
  simp only [exec_request, execRequest, Option.toList_some, hread]
  rfl

/-! ### The requests that are presented, read at the release of a line or by a REQUEST that presents none -/

theorem readOldest_of_none (h : s.rqp.presented = []) : readOldest s = s := by
  unfold readOldest
  rw [h]
  split
  case h_1 hp => cases hp
  case h_2 => rfl

theorem exec_request_none (h : s.mayRead = true) : exec (.request none) s = .next (finish (readOldest s)) := by
  have hsame : ({ s with rqp := { s.rqp with presented := s.rqp.presented ++ [] } } : State) = s := by
    rw [List.append_nil]
  simp only [exec_request, execRequest, Option.toList_none, hsame, h, if_true]

/-! ### Path resets (R42, R100) -/

theorem exec_pathReset (s : State) : exec .pathReset s = .next (pathReset s) := rfl

theorem exec_prstDeasserted (s : State) : exec .prstDeasserted s = .next (endPathReset s) := rfl

theorem exec_responseDelivery (n : Nat) (s : State) : exec (.responseDelivery n) s = execResponseDelivery n s := rfl

theorem pathReset_of_asserted (h : s.lines.prst = true) : pathReset s = s := by rw [pathReset, if_pos h]

theorem pathReset_of_deasserted (h : s.lines.prst = false) :
    pathReset s = finish (raiseMapped .pathReset 0 (clearPath s)) := by
  rw [pathReset, h]
  rfl

theorem endPathReset_of_asserted (h : s.lines.prst = true) :
    endPathReset s = finish (readOldest { s with lines := { s.lines with prst := false } }) := by
  rw [endPathReset, if_pos h]

theorem endPathReset_of_deasserted (h : s.lines.prst = false) : endPathReset s = s := by
  rw [endPathReset, h]
  rfl

/-- The cases of TABLE 2.3 for a path reset. -/
theorem Row.pathReset_cases (r : Row) :
    (r.state ∈ [.deciding, .queued, .parked, .responding] → r.pathReset = Row.empty) ∧
      (r.state = .issued → r.pathReset = { r with state := .orphan, owed := false }) ∧
      (r.state ∈ [.empty, .orphan] → r.pathReset = r) := by
  unfold Row.pathReset
  cases hs : r.state <;> simp

theorem arbitrate_of_no_forward (h : s.fq = []) :
    arbitrate s = { s with rw := (arbitrate s).rw, mpa := (arbitrate s).mpa } := by
  unfold arbitrate
  split
  case h_1 => rfl
  case h_2 =>
    split
    case h_1 => rfl
    case h_2 => rfl
    case h_3 hfq _ => cases h.symm.trans hfq
    case h_4 hfq _ => cases h.symm.trans hfq

/-! ### STOPPING makes its progress at once (R51) -/

/-- An offer of the STOP record in STOPPING leaves it placed, or due where the queue has no room. -/
theorem offerStop_cases (h : s.sc.session ≠ .watching) :
    (offerStop s).sc.stopRecord = .placed ∨
      ((offerStop s).sc.stopRecord = .due ∧ (offerStop s).rw.ringDone = false) := by
  unfold offerStop
  split
  case isTrue => exact .inl rfl
  case isFalse hd =>
    split
    case h_1 u hu =>
      obtain ⟨-, heq⟩ := admitBundle_some hu
      have hw : u.sc.session ≠ .watching := by
        rw [heq]
        exact h
      rw [takeHead_of_not_watching (s := { u with sc := { u.sc with stopRecord := .placed } }) hw]
      exact .inl rfl
    case h_2 => exact .inr ⟨rfl, Bool.not_eq_true _ ▸ hd⟩

theorem stopProgress_of_offered
    (h : s.sc.stopRecord = .placed ∨ (s.sc.stopRecord = .due ∧ s.rw.ringDone = false)) : stopProgress s = s := by
  unfold stopProgress
  obtain hp | ⟨hd, hr⟩ := h
  · rw [hp]
    split <;> rfl
  · rw [hd, hr]
    split <;> rfl

/-- Once STOPPING has made its progress, it has no more to make. -/
theorem stopProgress_idem (s : State) : stopProgress (stopProgress s) = stopProgress s := by
  by_cases hs : s.sc.session = .stopping
  case neg =>
    have hsame : stopProgress s = s := by rw [stopProgress, if_neg hs]
    rw [hsame, hsame]
  case pos =>
    have hoffer := stopProgress_of_offered (offerStop_cases (s := s) (by rw [hs]; decide))
    have hcases : stopProgress s = s ∨ stopProgress s = offerStop s := by
      rw [stopProgress, if_pos hs]
      split
      · split
        · exact .inl rfl
        · exact .inr rfl
      · split
        · exact .inr rfl
        · exact .inl rfl
      · exact .inl rfl
    obtain h | h := hcases
    · rw [h, h]
    · rw [h, hoffer]

/-! ### The end of a step with the path empty -/

/-- With the path empty, the end of a step is the progress of STOPPING and a grant to the Ring Writer. -/
theorem finish_of_empty_path (hidle : s.rqp.acceptance = .idle) (hrows : ∀ u : Fin 8, s.rows[u].state ≠ .responding) :
    finish s = arbitrate (stopComplete (stopProgress s)) := by
  have hwait : ∀ u : State, u.rqp = s.rqp → u.waitStands = true := fun u hu => by
    rw [State.waitStands, hu, hidle]
  have hlossless : ∀ u : State, u.rqp = s.rqp → u.rows = s.rows → endLosslessWaits u = u := fun u hport hu =>
    endLosslessWaits_of_none (hwait u hport) (.inr fun v => by rw [hu]; exact hrows v)
  obtain ⟨x, hx⟩ := stopProgress_eq s
  have hport : (stopProgress s).rqp = s.rqp := by rw [hx]
  have hrows' : (stopProgress s).rows = s.rows := by rw [hx]
  rw [finish, hlossless s rfl rfl, resumeWait_of_stands (hwait _ hport), hlossless _ hport hrows', stopProgress_idem]

/-- What is left alone then. -/
theorem finish_of_empty_path_frame (hidle : s.rqp.acceptance = .idle) (hfq : s.fq = [])
    (hrows : ∀ u : Fin 8, s.rows[u].state ≠ .responding) :
    ∃ c : SessionController, c.level = s.sc.level ∧
      finish s =
        { s with sc := c, cq := (finish s).cq, rbl := (finish s).rbl, rw := (finish s).rw, mpa := (finish s).mpa,
                 au := (finish s).au } := by
  obtain ⟨x, hx⟩ := stopProgress_eq s
  obtain ⟨y, hy⟩ := stopComplete_eq (stopProgress s)
  have hfq' : (stopComplete (stopProgress s)).fq = [] := by rw [hy, hx]; exact hfq
  have hend : finish s = _ := (finish_of_empty_path hidle hrows).trans (arbitrate_of_no_forward hfq')
  refine ⟨{ s.sc with stopRecord := x, session := y }, rfl, ?_⟩
  rw [hend, hy, hx]

theorem clearPath_row (u : Fin 8) : (clearPath s).rows[u] = s.rows[u].pathReset :=
  mapRows_getElem s Row.pathReset u.val u.isLt

/-- The path right after a path reset: cleared, with the cause raised. -/
def State.pathCleared (s : State) : State := { clearPath s with au := (raiseMapped .pathReset 0 s).au }

theorem raiseMapped_clearPath (s : State) : raiseMapped .pathReset 0 (clearPath s) = s.pathCleared := by
  have hau : (raiseMapped .pathReset 0 (clearPath s)).au = (raiseMapped .pathReset 0 s).au :=
    raise_au_congr (t := clearPath s) (s := s) _ _ _ rfl
  rw [raiseMapped_eq, hau]
  rfl

theorem pathCleared_not_responding (s : State) (u : Fin 8) : s.pathCleared.rows[u].state ≠ .responding := by
  change (clearPath s).rows[u].state ≠ .responding
  rw [clearPath_row]
  obtain h | h := Row.pathReset_state s.rows[u] <;> rw [h] <;> decide

/-- Outside STOPPING only a grant to the Ring Writer follows a path reset. -/
theorem finish_pathCleared (h : s.sc.session ≠ .stopping) :
    finish s.pathCleared =
      { s.pathCleared with rw := (finish s.pathCleared).rw, mpa := (finish s.pathCleared).mpa } := by
  have hsettled : s.pathCleared.settled := ⟨rfl, .inr (pathCleared_not_responding s), fun hs => absurd hs h⟩
  have hgrant := arbitrate_of_no_forward (s := s.pathCleared) rfl
  rwa [← finish_of_settled hsettled] at hgrant

end Sys2Proof.Machine

namespace Sys2Proof.Proofs.MemoryPath

open Sys2Proof.Machine

/-- Settles O46. -/
theorem responseDelivery : Obligations.ResponseDelivery := by
  refine fun n s => ⟨fun before after r hready hn => ?_, fun hn => ?_⟩
  · have hget : s.rqp.ready[n]? = some r := by simp [hready, ← hn]
    have herase : s.rqp.ready.eraseIdx n = before ++ after := by simp [hready, ← hn, List.eraseIdx_append_of_length_le]
    simp only [exec_responseDelivery, execResponseDelivery, hget, herase]
  · have hnone : s.rqp.ready[n]? = none := List.getElem?_eq_none hn
    simp only [exec_responseDelivery, execResponseDelivery, hnone]

/-- Settles O35: what is read and not taken leaves the state at rest. -/
theorem requestsNotTaken : Obligations.RequestsNotTaken := by
  refine ⟨fun r s => ⟨?live, ?malformed, ?waitOrphan, ?conflict, exec_request_of_not_mayRead⟩, fun a s => covered_iff,
    fun r h1 h8 => ⟨malformed_iff h1 h8, fun hm k hk => line_of_not_malformed hm hk⟩⟩
  case live =>
    intro h hrow
    obtain ⟨-, -, -, hrest⟩ := id h
    exact exec_request_of_rest h (readRequest_of_live ((RowState.live_iff _).2 hrow)) (atRest_raiseMapped hrest _ _)
  case malformed =>
    intro h hrow hm
    obtain ⟨-, -, -, hrest⟩ := id h
    have hlive : s.rows[r.tag].state.live = false := by
      simp only [List.mem_cons, List.not_mem_nil, or_false] at hrow
      obtain hs | hs := hrow <;> rw [hs] <;> rfl
    refine exec_request_of_rest h (readRequest_of_malformed hlive hm) (atRest_raiseMapped ?_ _ _)
    exact hrest
  case waitOrphan =>
    intro h hrow hm
    obtain ⟨-, -, -, hrest⟩ := id h
    refine exec_request_of_rest h (readRequest_of_orphan hrow hm) (atRest_setPort hrest ?_)
    exact decide_eq_true hrow
  case conflict =>
    intro h hrow hm hc
    obtain ⟨-, -, -, hrest⟩ := id h
    refine exec_request_of_rest h ((readRequest_of_empty hrow hm).trans (conflictGate_of_covered hc))
      (atRest_setPort hrest ?_)
    exact hc

/-- Settles O7: what follows a path reset at once leaves the cleared path alone. -/
theorem pathResetAndItsEnd : Obligations.PathResetAndItsEnd := by
  intro s
  refine ⟨?reset, fun h => ?again, ?rest, ?reads, fun h => ?none⟩
  case again => rw [exec_pathReset, pathReset_of_asserted h]
  case none => rw [exec_prstDeasserted, endPathReset_of_deasserted h]
  case rest =>
    intro h hnone hrest
    have hsame := readOldest_of_none (s := { s with lines := { s.lines with prst := false } }) hnone
    have hfinish := finish_of_atRest (s := { s with lines := { s.lines with prst := false } }) hrest
    rw [exec_prstDeasserted, endPathReset_of_asserted h, hsame, hfinish]
  case reads =>
    intro h hreset hidle
    have hread : ({ s with lines := { s.lines with prst := false } } : State).mayRead = true := by
      simp [State.mayRead, hreset, hidle]
    rw [exec_prstDeasserted, endPathReset_of_asserted h, exec_request_none hread]
  case reset =>
    intro h
    refine ⟨finish s.pathCleared, ?_, ?_⟩
    · rw [exec_pathReset, pathReset_of_deasserted h, raiseMapped_clearPath]
    · obtain ⟨c, hlevel, hframe⟩ :=
        finish_of_empty_path_frame (s := s.pathCleared) rfl rfl (pathCleared_not_responding s)
      have hrow : ∀ n : Fin 8, (finish s.pathCleared).rows[n] = s.rows[n].pathReset := fun n => by
        rw [hframe]
        exact clearPath_row n
      have hslots : ∀ n : Fin 2, (finish s.pathCleared).hold.slots[n] = none := fun n => by
        rw [hframe]
        simp [State.pathCleared, clearPath]
      have hport := congrArg State.rqp hframe
      refine ⟨fun n => by rw [hrow]; exact Row.pathReset_cases _, congrArg State.fq hframe, hslots,
        congrArg (·.hold.ticket) hframe, congrArg RequestPort.acceptance hport, congrArg RequestPort.presented hport,
        congrArg RequestPort.ready hport, congrArg State.lines hframe, (congrArg State.entries hframe :),
        (congrArg State.totals hframe :), (congrArg State.counters hframe :),
        (congrArg (·.sc.level) hframe).trans hlevel, (congrArg State.mgp hframe :), fun hs => ?_⟩
      rw [finish_pathCleared hs]
      exact ⟨rfl, rfl, rfl, rfl⟩

end Sys2Proof.Proofs.MemoryPath
end

section
/-! While the Ring Writer takes no record, because it is busy or because no session makes records, a request that is
taken leaves it alone, and the session makes records as before (R105, R137). The part of obligation O43 about the ORPHAN
wait rests on it. -/

namespace Sys2Proof.Machine

variable {s t : State} {x : RingWriter} {b : Bool} {tag : Fin 8}

/-- The Ring Writer is `x` and takes no record, `b` says whether the session makes records, and once lossless waits
cannot stand no row is RESPONDING. -/
structure State.RingHeld (x : RingWriter) (b : Bool) (s : State) : Prop where
  rw      : s.rw = x
  records : s.sc.session.records = b
  busy    : x.writer ≠ .idle ∨ b = false
  waits   : (b = true ∧ x.ringDone = false) ∨ ∀ u : Fin 8, s.rows[u].state ≠ .responding

theorem State.RingHeld.congr (h : s.RingHeld x b) (hrw : t.rw = s.rw)
    (hrecords : t.sc.session.records = s.sc.session.records) (hrows : t.rows = s.rows) : t.RingHeld x b :=
  ⟨hrw.trans h.rw, hrecords.trans h.records, h.busy, hrows ▸ h.waits⟩

/-- A row may change, but not to RESPONDING. -/
theorem State.RingHeld.modifyRow (h : s.RingHeld x b) (tag : Fin 8) {f : Row → Row}
    (hf : ∀ r, (f r).state = .responding → r.state = .responding) : (modifyRow tag f s).RingHeld x b := by
  refine ⟨h.rw, h.records, h.busy, h.waits.imp id fun hnone u => ?_⟩
  have hrow : (Machine.modifyRow tag f s).rows[u] = if u = tag then f s.rows[tag] else s.rows[u] := row_set ..
  rw [hrow]
  split
  · exact fun hr => hnone tag (hf _ hr)
  · exact hnone u

theorem State.RingHeld.mapRows (h : s.RingHeld x b) {f : Row → Row} (hf : ∀ r, (f r).state = r.state) :
    (mapRows f s).RingHeld x b := by
  refine ⟨h.rw, h.records, h.busy, h.waits.imp id fun hnone u => ?_⟩
  have hrow : (Machine.mapRows f s).rows[u] = f s.rows[u] := mapRows_getElem s f u.val u.isLt
  rw [hrow, hf]
  exact hnone u

theorem State.RingHeld.queueForward (h : s.RingHeld x b) (tag : Fin 8) : (queueForward tag s).RingHeld x b := by
  have hqueue : ({ s with fq := s.fq ++ [tag] } : State).RingHeld x b := h.congr rfl rfl rfl
  exact hqueue.modifyRow tag (fun _ h => RowState.noConfusion h)

theorem State.RingHeld.deliverRow (h : s.RingHeld x b) (tag : Fin 8) (status : RespStatus) :
    (deliverRow tag status s).RingHeld x b := by
  have hrespond : (respond { status := status, tag := tag, data := responseData s.rows[tag] status } s).RingHeld x b :=
    h.congr rfl rfl rfl
  exact hrespond.modifyRow tag (fun _ h => RowState.noConfusion h)

/-! ### Causes and records -/

theorem State.RingHeld.raise (h : s.RingHeld x b) (cls : Option (Fin 4)) (c : CauseKind) (i : Nat) :
    (raise cls c i s).RingHeld x b := by
  rw [raise_eq]
  exact h.congr rfl rfl rfl

theorem State.RingHeld.takeHead (h : s.RingHeld x b) : (takeHead s).RingHeld x b := by
  obtain hbusy | hnone := h.busy
  · rwa [takeHead_of_busy (by rwa [h.rw])]
  · rwa [takeHead_of_no_records (h.records.trans hnone)]

theorem State.RingHeld.offer (h : s.RingHeld x b) (own : Bool) (body : RecordBody) :
    (offer own body s).RingHeld x b := by
  unfold Machine.offer
  split
  · exact h.congr rfl rfl rfl
  · split
    case h_1 a ha =>
      obtain ⟨-, heq⟩ := admitBundle_some ha
      refine State.RingHeld.takeHead ?_
      rw [heq]
      exact h.congr rfl rfl rfl
    case h_2 =>
      rw [dropRecord_eq]
      exact h.congr rfl rfl rfl

theorem State.RingHeld.makeHit (h : s.RingHeld x b) (own : Bool) (y : HitRecord) : (makeHit own y s).RingHeld x b := by
  unfold Machine.makeHit
  split
  · exact h.offer own _
  · exact h.congr rfl rfl rfl

theorem State.RingHeld.clearDebt (h : s.RingHeld x b) (tag : Fin 8) : (clearDebt tag s).RingHeld x b :=
  h.modifyRow tag fun _ => id

/-! ### Releases, stop and level requests -/

theorem State.RingHeld.releaseSlot (h : s.RingHeld x b) (n : Fin 2) (d : Disposition) (words : List Word) :
    (releaseSlot (Machine.makeHit false) n d words s).RingHeld x b := by
  unfold Machine.releaseSlot
  split
  case h_1 => exact h
  case h_2 p _ =>
    have hfree : (freeSlot n s).RingHeld x b := h.congr rfl rfl rfl
    have hanswer : State.RingHeld x b (if d.answers then Machine.modifyRow p.tag (answerFields d words) (freeSlot n s)
        else freeSlot n s) := by
      split
      · exact hfree.modifyRow _ fun _ => id
      · exact hfree
    dsimp only
    generalize (if d.answers then Machine.modifyRow p.tag (answerFields d words) (freeSlot n s)
        else freeSlot n s) = u at hanswer ⊢
    have hrecord : State.RingHeld x b
        (if u.rows[p.tag].owed && (decide (u.rows[p.tag].kind = .write) || d.answers) then
          Machine.clearDebt p.tag (Machine.makeHit false (buildHit u p.tag d false false) u) else u) := by
      split
      · exact (hanswer.makeHit false _).clearDebt _
      · exact hanswer
    split
    · exact hrecord.deliverRow _ _
    · refine State.RingHeld.queueForward (hrecord.modifyRow _ fun r => ?_) _
      unfold forwardFields
      split <;> exact id

theorem State.RingHeld.stopRequest (h : s.RingHeld x b) (reason : StopReason) :
    (stopRequest reason s).RingHeld x b := by
  unfold Machine.stopRequest
  split
  case isTrue hw =>
    have hb : b = true := by
      rw [← h.records, hw]
      rfl
    have hstop : ({ s with sc := { s.sc with session := .stopping, reason := reason } } : State).RingHeld x b :=
      h.congr rfl (by rw [hw]; rfl) rfl
    have hfreeze : (freeze { s with sc := { s.sc with session := .stopping, reason := reason } }).RingHeld x b :=
      (hstop.mapRows (f := fun r => { r with late := 0#16 }) fun _ => rfl).congr rfl rfl rfl
    exact (hfreeze.releaseSlot 0 _ _).releaseSlot 1 _ _
  case isFalse => exact h

theorem State.RingHeld.levelRequest (h : s.RingHeld x b) (v : Fin 4) (c : LevelCause) (i : Nat) :
    (levelRequest v c i s).RingHeld x b := by
  unfold Machine.levelRequest
  split
  · have hlevel : ({ s with sc := { s.sc with level := v } } : State).RingHeld x b := h.congr rfl rfl rfl
    dsimp only
    split
    · exact hlevel.offer _ _
    · exact hlevel
  · exact h

/-! ### Counters and hits -/

theorem State.RingHeld.expiryActions (h : s.RingHeld x b) (n : Fin 4) : (expiryActions n s).RingHeld x b := by
  have hraise := h.raise s.counters[n].alert .expiry n.val
  have hlevel : State.RingHeld x b (match s.counters[n].nextLevel with
      | some v => Machine.levelRequest v .counter n.val (Machine.raise s.counters[n].alert .expiry n.val s)
      | none => Machine.raise s.counters[n].alert .expiry n.val s) := by
    split
    · exact hraise.levelRequest _ _ _
    · exact hraise
  unfold Machine.expiryActions
  dsimp only
  split
  · exact hlevel.offer _ _
  · exact hlevel

theorem State.RingHeld.expiryStop (h : s.RingHeld x b) (n : Fin 4) : (expiryStop n s).RingHeld x b := by
  unfold Machine.expiryStop
  split
  · exact h.stopRequest _
  · exact h

theorem State.RingHeld.foldl {α : Type} {f : State → α → State}
    (hf : ∀ u y, State.RingHeld x b u → (f u y).RingHeld x b) (l : List α) (h : s.RingHeld x b) :
    (l.foldl f s).RingHeld x b := by
  induction l generalizing s with
  | nil => exact h
  | cons y l ih => exact ih (hf s y h)

theorem State.RingHeld.counterEvent (h : s.RingHeld x b) (ev : CounterEvent) : (counterEvent ev s).RingHeld x b := by
  unfold Machine.counterEvent
  split
  · refine State.RingHeld.foldl (fun _ n hu => hu.expiryStop n) _ ?_
    exact State.RingHeld.foldl (fun _ n hu => hu.expiryActions n) _ (h.congr rfl rfl rfl)
  · exact h

theorem State.RingHeld.requestStop (h : s.RingHeld x b) (stop : Option (Fin 16)) :
    (requestStop stop s).RingHeld x b := by
  unfold Machine.requestStop
  split
  · exact h.stopRequest _
  · exact h

theorem State.RingHeld.handOn (h : s.RingHeld x b) (tag : Fin 8) (o : MatchOutcome) :
    (handOn tag o s).RingHeld x b := by
  have hhits : (raiseHits o.alerts (countHits o.early s)).RingHeld x b := by
    rw [raiseHits_eq]
    exact h.congr rfl rfl rfl
  have hlevel : (requestLevel o.level (raiseHits o.alerts (countHits o.early s))).RingHeld x b := by
    unfold requestLevel
    split
    · exact hhits.levelRequest _ _ _
    · exact hhits
  unfold Machine.handOn notify
  refine State.RingHeld.counterEvent ?_ _
  exact hlevel.modifyRow tag fun _ => id

/-! ### The decision and the LOSSLESS gate -/

theorem State.RingHeld.decideForward (h : s.RingHeld x b) (tag : Fin 8) (d : Disposition) (refused : Bool) :
    (decideForward tag d refused s).RingHeld x b := by
  have hrow : (Machine.modifyRow tag (fun r => { r with carry := d, holdRefused := refused }) s).RingHeld x b :=
    h.modifyRow tag fun _ => id
  unfold Machine.decideForward writeRecord
  refine State.RingHeld.queueForward ?_ tag
  split
  · exact (hrow.makeHit true _).clearDebt tag
  · exact hrow

theorem State.RingHeld.decideBlock (h : s.RingHeld x b) (tag : Fin 8) (status : RespStatus) :
    (decideBlock tag status s).RingHeld x b := by
  unfold Machine.decideBlock
  dsimp only
  have hrow : (Machine.modifyRow tag (fun r => { r with
      late := 0#16
      readBuf := if r.kind = .read ∧ status = .okay then List.replicate r.beats 0#32 else [] }) s).RingHeld x b :=
    h.modifyRow tag fun _ => id
  refine State.RingHeld.deliverRow ?_ tag status
  split
  · exact (hrow.makeHit true _).clearDebt tag
  · exact hrow

theorem State.RingHeld.carryOut (h : s.RingHeld x b) (tag : Fin 8) (v : Verdict) : (carryOut tag v s).RingHeld x b := by
  cases v with
  | forward => exact h.decideForward tag _ _
  | block status => exact h.decideBlock tag status
  | hold entry =>
    change (decideHold tag entry s).RingHeld x b
    unfold decideHold
    split
    · split
      · unfold park
        refine State.RingHeld.raise (State.RingHeld.modifyRow ?_ tag (fun _ h => RowState.noConfusion h)) _ _ _
        exact h.congr rfl rfl rfl
      · exact (h.decideForward tag _ _).raise _ _ _
    · exact h.decideForward tag _ _

theorem State.RingHeld.decideRequest (h : s.RingHeld x b) (tag : Fin 8) (o : MatchOutcome) :
    (decideRequest tag o s).RingHeld x b :=
  (((h.handOn tag o).carryOut tag o.verdict).requestStop o.stop).congr rfl rfl rfl

theorem State.RingHeld.mayWait (h : s.RingHeld x b) : s.mayWait = (b && !x.ringDone) := by
  rw [State.mayWait, h.records, h.rw]

/-- A request that is taken is decided, or it waits at the LOSSLESS gate, where waits can stand. -/
theorem State.RingHeld.losslessGate (h : s.RingHeld x b) (tag : Fin 8) (o : MatchOutcome) :
    (losslessGate tag o s).RingHeld x b ∧ (Machine.losslessGate tag o s).waitStands = true := by
  unfold Machine.losslessGate
  split
  case isTrue hgate =>
    split
    · unfold passGate
      refine ⟨State.RingHeld.decideRequest ?_ tag o, rfl⟩
      exact h.congr rfl rfl rfl
    · refine ⟨h.congr rfl rfl rfl, ?_⟩
      simp only [meetsLosslessGate, Bool.and_eq_true] at hgate
      exact hgate.1.2
  case isFalse => exact ⟨h.decideRequest tag o, rfl⟩

theorem State.RingHeld.takeRequest (h : s.RingHeld x b) (r : Request) :
    (takeRequest r s).RingHeld x b ∧ (Machine.takeRequest r s).waitStands = true := by
  unfold Machine.takeRequest
  split
  · exact State.RingHeld.losslessGate (h.modifyRow r.tag (fun _ h => RowState.noConfusion h)) _ _
  · exact State.RingHeld.losslessGate (h.modifyRow r.tag (fun _ h => RowState.noConfusion h)) _ _

theorem State.RingHeld.conflictGate (h : s.RingHeld x b) (r : Request) :
    (conflictGate r s).RingHeld x b ∧ (Machine.conflictGate r s).waitStands = true := by
  unfold Machine.conflictGate
  split
  case isTrue hc => exact ⟨h.congr rfl rfl rfl, hc⟩
  case isFalse =>
    refine State.RingHeld.takeRequest ?_ r
    exact h.congr rfl rfl rfl

end Sys2Proof.Machine
end

section
/-! Responses for rows that owe no record, and the ORPHAN wait that ends with its orphan (obligation O43). -/

namespace Sys2Proof.Machine

variable {s t : State} {x : RingWriter} {b : Bool} {tag : Fin 8} {r : Request} {status : RespStatus} {words : List Word}

/-! ### The end of a step that a request taken has left -/

theorem State.RingHeld.offerStop (h : s.RingHeld x b) : (offerStop s).RingHeld x b := by
  unfold Machine.offerStop
  split
  · exact h.congr rfl rfl rfl
  · split
    case h_1 a ha =>
      obtain ⟨-, heq⟩ := admitBundle_some ha
      refine State.RingHeld.takeHead ?_
      rw [heq]
      exact h.congr rfl rfl rfl
    case h_2 => exact h.congr rfl rfl rfl

theorem State.RingHeld.stopProgress (h : s.RingHeld x b) : (stopProgress s).RingHeld x b := by
  unfold Machine.stopProgress
  split
  · split
    · split
      · exact h
      · exact h.offerStop
    · split
      · exact h.offerStop
      · exact h
    · exact h
  · exact h

/-- No lossless wait ends while the wait of the Request Port, if any, stands. -/
theorem State.RingHeld.endLosslessWaits (h : s.RingHeld x b) (hwait : s.waitStands = true) :
    endLosslessWaits s = s := by
  refine endLosslessWaits_of_none hwait (h.waits.imp (fun hwaits => ?_) id)
  rw [h.mayWait, hwaits.1, hwaits.2]
  rfl

/-- The progress of STOPPING leaves the wait of the Request Port as it is. -/
theorem State.RingHeld.waitStands_stopProgress (h : s.RingHeld x b) :
    (Machine.stopProgress s).waitStands = s.waitStands := by
  have hmay : (Machine.stopProgress s).mayWait = s.mayWait := h.stopProgress.mayWait.trans h.mayWait.symm
  obtain ⟨y, hy⟩ := stopProgress_eq s
  unfold State.waitStands
  rw [hmay, hy]
  rfl

theorem State.RingHeld.finish (h : s.RingHeld x b) (hwait : s.waitStands = true) :
    finish s = arbitrate (stopComplete (Machine.stopProgress s)) := by
  have hwait' := h.waitStands_stopProgress.trans hwait
  rw [Machine.finish, h.endLosslessWaits hwait, resumeWait_of_stands hwait', h.stopProgress.endLosslessWaits hwait',
    stopProgress_idem]

/-! ### The end of an ORPHAN wait (R32) -/

/-- The state with no request in hand. -/
def State.unhanded (s : State) : State := { s with rqp := { s.rqp with acceptance := .idle } }

/-- The CONFLICT gate does not ask what the Request Port has in hand. -/
theorem conflictGate_unhanded (r : Request) (s : State) : conflictGate r s.unhanded = conflictGate r s := rfl

theorem loseWaitingRow_of_not_responding {u : Fin 8} (h : s.rows[u].state ≠ .responding) : loseWaitingRow u s = s := by
  unfold loseWaitingRow
  split
  case h_1 hstate _ => exact absurd hstate h
  case h_2 => rfl

/-- No lossless wait ends while a request is in the ORPHAN wait, over or not. -/
theorem endLosslessWaits_of_waitOrphan (h : s.rqp.acceptance = .waitOrphan r)
    (hwaits : s.mayWait = true ∨ ∀ u : Fin 8, s.rows[u].state ≠ .responding) : endLosslessWaits s = s := by
  unfold endLosslessWaits
  split
  case isTrue => rfl
  case isFalse hmay =>
    have hrows : allTags.foldl (fun a u => loseWaitingRow u a) s = s :=
      List.foldl_fixed' (fun u => loseWaitingRow_of_not_responding (hwaits.resolve_left hmay u)) _
    rw [hrows, loseWaitingWrite, h]

/-- The end of a step that has consumed the orphan for which a request waits. -/
theorem finish_of_orphan_gone (h : s.rqp.acceptance = .waitOrphan r) (hrow : s.rows[r.tag].state ≠ .orphan)
    (hrest : s.unhanded.settled) :
    finish s = arbitrate (stopComplete (stopProgress (endLosslessWaits (conflictGate r s.unhanded)))) := by
  obtain ⟨-, hwaits, hstop⟩ := hrest
  have hprogress : stopProgress s = s := stopProgress_of_stands hstop
  have hresume : resumeWait s = conflictGate r s := by
    rw [resumeWait, h]
    exact if_neg hrow
  rw [finish, endLosslessWaits_of_waitOrphan h hwaits, hprogress, hresume, conflictGate_unhanded]

/-- At rest with the Ring Writer busy or no record to make, the Ring Writer takes none. -/
theorem ringHeld_of_settled (h : s.settled) (hbusy : s.rw.writer ≠ .idle ∨ s.sc.session ∉ [.watching, .stopping]) :
    s.RingHeld s.rw s.sc.session.records := by
  obtain ⟨-, hwaits, -⟩ := h
  refine ⟨rfl, rfl, hbusy.imp id (Session.records_eq_false_iff _).2, hwaits.imp (fun hmay => ?_) id⟩
  simpa [State.mayWait] using hmay

/-- The request goes on as one that is read then. -/
theorem finish_of_orphan_gone_eq (h : s.rqp.acceptance = .waitOrphan r) (hrow : s.rows[r.tag].state = .empty)
    (hm : malformed r = false) (hrest : s.unhanded.settled)
    (hbusy : s.rw.writer ≠ .idle ∨ s.sc.session ∉ [.watching, .stopping]) :
    finish s = finish (readRequest r s.unhanded) := by
  obtain ⟨hheld, hwait⟩ := (ringHeld_of_settled hrest hbusy).conflictGate r
  rw [finish_of_orphan_gone h (by rw [hrow]; decide) hrest, hheld.endLosslessWaits hwait, ← hheld.finish hwait,
    readRequest_of_empty (s := s.unhanded) hrow hm]

/-! ### Responses that are consumed, relayed and delivered (R36, R37, R38, R43) -/

/-- The state in which `tag`'s row is EMPTY. -/
def State.withoutRow (s : State) (tag : Fin 8) : State := { s with rows := s.rows.set tag Row.empty }

theorem withoutRow_row (s : State) (tag u : Fin 8) :
    (s.withoutRow tag).rows[u] = if u = tag then Row.empty else s.rows[u] := row_set ..

theorem exec_memoryResponse_of_orphan (h : s.rows[tag].state = .orphan) :
    exec (.memoryResponse { marker := .forwarded, tag := tag, status := status, data := words }) s =
      .next (finish (s.withoutRow tag)) := by
  simp only [exec_memoryResponse, execMemoryResponse, forwardedResponse, h]
  rfl

theorem exec_memoryResponse_of_write (h : s.rows[tag].state = .issued) (hkind : s.rows[tag].kind = .write) :
    exec (.memoryResponse { marker := .forwarded, tag := tag, status := status, data := words }) s =
      .next (finish (deliverRow tag status s)) := by
  simp only [exec_memoryResponse, execMemoryResponse, forwardedResponse, h, hkind]

theorem exec_memoryResponse_of_failed (h : s.rows[tag].state = .issued) (hkind : s.rows[tag].kind = .read)
    (hfail : status = .error ∨ words.length < s.rows[tag].beats) :
    exec (.memoryResponse { marker := .forwarded, tag := tag, status := status, data := words }) s =
      .next (finish (settleRead tag .error (modifyRow tag (fun q => { q with late := 0#16, readBuf := [] }) s))) := by
  have hnot : ¬(status = .okay ∧ s.rows[tag].beats ≤ words.length) := by
    rintro ⟨rfl, hbeats⟩
    exact hfail.elim (nomatch ·) hbeats.not_gt
  simp only [exec_memoryResponse, execMemoryResponse, forwardedResponse, h, hkind, readResponse, hnot, if_false]

/-- With no debt, a row that becomes EMPTY leaves a settled state settled, whatever the Request Port has given
upstream. -/
theorem settled_withoutRow (h : s.settled) (howed : s.rows[tag].owed = false) {p : RequestPort}
    (hidle : p.acceptance = .idle) : ({ s.withoutRow tag with rqp := p } : State).settled :=
  settled_of_row h hidle rfl rfl rfl rfl (q := Row.empty) howed.symm (by decide)

/-- At rest with no request in hand, a row without debt may become EMPTY. -/
theorem finish_withoutRow_of_idle (h : s.atRest) (hidle : s.rqp.acceptance = .idle)
    (howed : s.rows[tag].owed = false) : finish (s.withoutRow tag) = s.withoutRow tag := by
  obtain ⟨hstands, hresp, hstop, hgrant⟩ := h
  exact finish_of_rest (settled_withoutRow ⟨hstands, hresp, hstop⟩ howed hidle) hgrant

/-- At rest and with no debt, the delivery of a row's response is all that happens. -/
theorem finish_deliverRow (h : s.atRest) (hidle : s.rqp.acceptance = .idle) (howed : s.rows[tag].owed = false)
    {q : Row} {u : State} (hu : u = { s with rows := s.rows.set tag q }) :
    finish (deliverRow tag status u) = { s.withoutRow tag with rqp := { s.rqp with
      ready := s.rqp.ready ++ [{ status := status, tag := tag, data := responseData q status }] } } := by
  obtain ⟨hwait, hresp, hstop, hgrant⟩ := h
  have hdeliver : deliverRow tag status u = { s.withoutRow tag with rqp := { s.rqp with
      ready := s.rqp.ready ++ [{ status := status, tag := tag, data := responseData q status }] } } := by
    simp [deliverRow_eq, hu, State.withoutRow]
  rw [hdeliver]
  exact finish_of_rest (settled_withoutRow ⟨hwait, hresp, hstop⟩ howed hidle) hgrant

/-- The row that a wait is not for may become EMPTY. -/
theorem finish_withoutRow_of_waitOrphan (h : s.atRest) (hwait : s.rqp.acceptance = .waitOrphan r)
    (hrow : s.rows[r.tag].state = .orphan) (howed : s.rows[tag].owed = false) (hne : tag ≠ r.tag) :
    finish (s.withoutRow tag) = s.withoutRow tag := by
  obtain ⟨hstands, hresp, hstop, hgrant⟩ := h
  obtain ⟨-, hresp', hstop'⟩ := settled_withoutRow ⟨hstands, hresp, hstop⟩ howed
    (p := { s.rqp with acceptance := .idle }) rfl
  have hrow' : (s.withoutRow tag).rows[r.tag].state = .orphan := by
    rw [withoutRow_row, if_neg hne.symm, hrow]
  refine finish_of_rest ⟨?_, hresp', hstop'⟩ hgrant
  have hacc : (s.withoutRow tag).rqp.acceptance = .waitOrphan r := hwait
  rw [State.waitStands, hacc]
  exact decide_eq_true hrow'

/-- The request in an ORPHAN wait has passed the protocol check, and its tag's row is an orphan (R31). -/
theorem waitOrphan_sound (h : s.pathSound) (hwait : s.rqp.acceptance = .waitOrphan r) :
    malformed r = false ∧ s.rows[r.tag].state = .orphan := by
  obtain ⟨-, -, hport, -⟩ := h
  rw [State.portSound, hwait] at hport
  obtain ⟨-, hm, hrow⟩ := of_decide_eq_true hport
  exact ⟨hm, hrow⟩

/-- A REQUEST that presents none reads the oldest request presented. -/
theorem exec_request_of_presented {q : List Request} (hreset : s.lines.reset = false) (hprst : s.lines.prst = false) :
    exec (.request none) { s with rqp := { s.rqp with acceptance := .idle, presented := r :: q } } =
      .next (finish (readRequest r { s with rqp := { s.rqp with acceptance := .idle, presented := q } })) := by
  have hread : ({ s with rqp := { s.rqp with acceptance := .idle, presented := r :: q } } : State).mayRead = true := by
    simp [State.mayRead, hreset, hprst]
  rw [exec_request_none hread, readOldest, hread]

end Sys2Proof.Machine

namespace Sys2Proof.Proofs.MemoryPath

open Sys2Proof.Machine

/-- Settles O43: the row becomes EMPTY, and at rest nothing follows but the end of the wait for an orphan. -/
theorem pathResponses : Obligations.PathResponses := by
  refine ⟨fun tag status words r s t hrest hsound hwait horphan howed ht => ?_,
    fun tag status words s t hrest hidle howed ht => ?_⟩
  · obtain rfl : t = s.withoutRow tag := ht
    obtain ⟨hm, hrow⟩ := waitOrphan_sound hsound hwait
    rw [exec_memoryResponse_of_orphan horphan]
    refine ⟨fun hne => ?another, fun htag hreset hprst hbusy => ?own⟩
    case another => rw [finish_withoutRow_of_waitOrphan hrest hwait hrow howed hne]
    case own =>
      obtain ⟨hstands, hresp, hstop, -⟩ := hrest
      have hempty : (s.withoutRow tag).rows[r.tag].state = .empty := by
        rw [withoutRow_row, if_pos htag.symm]
        rfl
      have hsettled : (s.withoutRow tag).unhanded.settled :=
        settled_withoutRow ⟨hstands, hresp, hstop⟩ howed (p := { s.rqp with acceptance := .idle }) rfl
      rw [finish_of_orphan_gone_eq (s := s.withoutRow tag) hwait hempty hm hsettled hbusy]
      exact (exec_request_of_presented (s := s.withoutRow tag) hreset hprst).symm
  · obtain rfl : t = s.withoutRow tag := ht
    refine ⟨fun horphan => ?orphan, fun hissued hkind => ?write, fun hissued hkind hlate hokay hbeats => ?okay,
      fun hissued hkind hfail => ?failed⟩
    case orphan =>
      rw [exec_memoryResponse_of_orphan horphan, finish_withoutRow_of_idle hrest hidle howed]
    case write =>
      have hdata : responseData s.rows[tag] status = [] := by simp only [responseData, hkind]
      rw [exec_memoryResponse_of_write hissued hkind,
        finish_deliverRow hrest hidle howed (u := s) (q := s.rows[tag]) (by simp), hdata]
    case okay =>
      have hnone : (s.withWords tag words).rows[tag].late = 0#16 := by rw [withWords_row]; exact hlate
      have hdebt : (s.withWords tag words).rows[tag].owed = false := by rw [withWords_row]; exact howed
      rw [hokay, exec_memoryResponse_of_issued hissued hkind hbeats, lateMatch_of_no_candidates hnone,
        settleRead_of_no_debt hdebt, finish_deliverRow hrest hidle howed (u := s.withWords tag words) rfl]
      simp only [responseData, hkind]
    case failed =>
      have hdebt : (modifyRow tag (fun q => { q with late := 0#16, readBuf := [] }) s).rows[tag].owed = false := by
        simpa [modifyRow] using howed
      rw [exec_memoryResponse_of_failed hissued hkind hfail, settleRead_of_no_debt hdebt,
        finish_deliverRow hrest hidle howed (u := modifyRow tag _ s) rfl]
      simp only [responseData, hkind]

end Sys2Proof.Proofs.MemoryPath
end

section
/-! The session commands that change no row of the path: PUT SESSION, CLEAR, LEVEL and ARM (obligations O12, O24, O22
and O19). -/

namespace Sys2Proof.Machine

variable {s t : State}

/-! ### What the Management Port does with a session command -/

theorem exec_putSession (b : Bytes 4) (s : State) :
    exec (.putSession b) s = .next (takeCommand 5 (putSession b) s) := rfl

theorem exec_arm (s : State) : exec .arm s = .next (takeCommand 0 arm s) := rfl

theorem exec_clear (s : State) : exec .clear s = .next (takeCommand 0 clear s) := rfl

theorem exec_level (v : Byte) (s : State) : exec (.level v) s = .next (takeCommand 1 (level v) s) := rfl

/-- PUT SESSION and ARM may be taken: no session stands and none has failed (R46, R61). -/
theorem between_sessions_iff {k : Session} : (k = .off ∨ k = .stopped) ↔ k ∈ [Session.off, .stopped] := by
  simp

theorem not_between_sessions {k : Session} (h : k ∈ [Session.watching, .stopping, .fault]) :
    ¬ (k = .off ∨ k = .stopped) := by
  cases k <;> simp at h ⊢

/-! ### PUT SESSION, in the order of its checks (R61, TABLE 11.8) -/

theorem fin4Of_val (v : Fin 4) : fin4Of v.val = some v := dif_pos v.isLt

theorem fin4Of_of_large {n : Nat} (h : 3 < n) : fin4Of n = none := dif_neg (by omega)

theorem yesNoOf_of_toNat {b : Byte} {on : Bool} (h : b.toNat = on.toNat) : yesNoOf b = some on := by
  obtain rfl : b = BitVec.ofNat 8 on.toNat := BitVec.eq_of_toNat_eq (by cases on <;> simpa using h)
  cases on <;> rfl

/-- The contents that R61 refuses: a level above 3, a code that is neither yes nor no, a limit of 0. -/
theorem sessionConfigOf_of_bad {b : Bytes 4} (h : 3 < b[0].toNat ∨ 1 < b[1].toNat ∨ b[2] ++ b[3] = 0#16) :
    sessionConfigOf b = none := by
  by_contra hsome
  obtain ⟨c, hc⟩ := Option.ne_none_iff_exists'.1 hsome
  simp only [sessionConfigOf, Option.bind_eq_some_iff] at hc
  obtain ⟨v, hv, on, hon, hc⟩ := hc
  obtain hlevel | hcode | hlimit := h
  · rw [fin4Of_of_large hlevel] at hv
    cases hv
  · have hle : b[1].toNat ≤ 1 := toNat_le_one_of_code hon
    omega
  · rw [if_pos hlimit] at hc
    cases hc

theorem sessionConfigOf_of_good {b : Bytes 4} {v : Fin 4} {on : Bool} (hv : b[0].toNat = v.val)
    (hon : b[1].toNat = on.toNat) (hlimit : b[2] ++ b[3] ≠ 0#16) :
    sessionConfigOf b = some (v, on, b[2] ++ b[3]) := by
  simp [sessionConfigOf, hv, fin4Of_val, yesNoOf_of_toNat hon, hlimit]

theorem putSession_of_state {b : Bytes 4} (h : s.sc.session ∈ [.watching, .stopping, .fault]) :
    putSession b s = (s, [0x02#8]) := by
  rw [putSession, if_neg (not_between_sessions h)]
  rfl

theorem putSession_of_badarg {b : Bytes 4} (h : s.sc.session ∈ [.off, .stopped]) (hb : sessionConfigOf b = none) :
    putSession b s = (s, [0x03#8]) := by
  rw [putSession, if_pos (between_sessions_iff.2 h), hb]
  rfl

theorem putSession_of_taken {b : Bytes 4} {v : Fin 4} {on : Bool} {limit : BitVec 16}
    (h : s.sc.session ∈ [.off, .stopped]) (hb : sessionConfigOf b = some (v, on, limit)) :
    putSession b s =
      ({ s with sc := { s.sc with startLevel := v, levelRecords := on, stallLimit := limit } }, [0x00#8]) := by
  rw [putSession, if_pos (between_sessions_iff.2 h), hb]
  rfl

/-! ### CLEAR and LEVEL (R55, R59) -/

theorem clear_of_fault (h : s.sc.session = .fault) :
    clear s = ({ s with sc := { s.sc with session := .stopped } }, [0x00#8]) := by
  rw [clear, if_pos h]
  rfl

theorem clear_of_not_fault (h : s.sc.session ≠ .fault) : clear s = (s, [0x02#8]) := by
  rw [clear, if_neg h]
  rfl

theorem level_of_state {v : Byte} (h : s.sc.session ≠ .watching) : level v s = (s, [0x02#8]) := by
  rw [level, if_neg h]
  rfl

theorem level_of_badarg {v : Byte} (h : s.sc.session = .watching) (hv : 3 < v.toNat) :
    level v s = (s, [0x03#8]) := by
  rw [level, if_pos h, fin4Of_of_large hv]
  rfl

theorem level_of_taken {v : Byte} {l : Fin 4} (h : s.sc.session = .watching) (hv : v.toNat = l.val) :
    level v s = (finish (levelRequest l .command 0 s), [0x00#8]) := by
  rw [level, if_pos h, hv, fin4Of_val]
  rfl

/-- In WATCHING a state at rest stays at rest when its level, its queue, its Record Builder and its causes change. -/
theorem atRest_of_level (h : s.atRest) (hw : s.sc.session = .watching) (l : Fin 4) (q : CaptureQueue)
    (b : RecordBuilder) (a : AlertUnit) :
    ({ s with sc := { s.sc with level := l }, cq := q, rbl := b, au := a } : State).atRest := by
  obtain ⟨hwait, hrows, -, hgrant⟩ := h
  exact ⟨hwait, hrows, fun hs => absurd (hw.symm.trans hs) (by decide), hgrant⟩

/-- The LEVEL record of a LEVEL command is offered while the Ring Writer is busy: placed whole, or dropped; beside the
level, only the queue, the Record Builder and the Alert Unit change (R57, R60, R122, R123). -/
theorem levelRequest_offered {v : Fin 4} {c : LevelCause} {i : Nat} (hw : s.sc.session = .watching)
    (hv : v ≠ s.sc.level) (hr : s.sc.levelRecords = true) (hd : s.rw.ringDone = false) (hb : s.rw.writer ≠ .idle)
    (ht : levelRequest v c i s = t) :
    (if wordsIn (bundle s (.level s.sc.level v c i)) ≤ s.cq.room false then
       t.cq.records = s.cq.records ++ bundle s (.level s.sc.level v c i) ∧ t.cq.lossCount = s.cq.lossCount
     else t.cq.records = s.cq.records ∧ t.cq.lossCount = satAdd s.cq.lossCount 1) ∧
    t = { s with sc := { s.sc with level := v }, cq := t.cq, rbl := t.rbl, au := t.au } := by
  rw [levelRequest_of_record hw hv hr] at ht
  subst ht
  split
  case isTrue hroom =>
    obtain ⟨hcq, heq⟩ := offer_of_room (s := { s with sc := { s.sc with level := v } }) hd hb hroom
    exact ⟨by rw [hcq]; exact ⟨rfl, rfl⟩, heq⟩
  case isFalse hroom =>
    obtain ⟨hcq, heq⟩ := offer_of_no_room (s := { s with sc := { s.sc with level := v } }) hd hroom
    exact ⟨by rw [hcq]; exact ⟨rfl, rfl⟩, heq⟩

/-! ### ARM (R46, R47) -/

theorem arm_of_state (h : s.sc.session ∈ [.watching, .stopping, .fault]) : arm s = (s, [0x02#8]) := by
  rw [arm, if_neg (not_between_sessions h)]
  rfl

theorem arm_of_badarg (h : s.sc.session ∈ [.off, .stopped]) (hr : s.rw.limit.toNat ≤ s.rw.base.toNat) :
    arm s = (s, [0x03#8]) := by
  have hvalid : ¬ s.rw.valid = true := by simpa [RingWriter.valid] using hr
  rw [arm, if_pos (between_sessions_iff.2 h), if_neg hvalid]
  rfl

theorem arm_of_taken (h : s.sc.session ∈ [.off, .stopped]) (hr : s.rw.base.toNat < s.rw.limit.toNat) :
    arm s = (arbitrate (takeHead (armSession s)), [0x00#8]) := by
  rw [arm, if_pos (between_sessions_iff.2 h), if_pos (show s.rw.valid = true from decide_eq_true hr)]
  rfl

/-- An empty ring has room at BASE for any record of up to 15 words: the smallest ring has 16 (R135, R136). -/
theorem choose_of_fresh {r : RingWriter} {x : Record} (hr : r.described) (hw : r.write = r.base)
    (hread : r.read = r.base) (hx : x.length ≤ 15) : r.choose x = .write (r.single x) := by
  obtain ⟨hbase, hlimit, hsmall, -⟩ := hr
  have hsize : r.toLimit = r.size := by rw [RingWriter.toLimit, hw, RingWriter.size]
  have hlarge : 16 ≤ r.size := by
    rw [RingWriter.size]
    omega
  have hused : r.used = 0 := by
    have hround : (r.base.toNat + (r.limit.toNat - r.base.toNat) - r.base.toNat) / 4 = r.size := by
      rw [RingWriter.size]
      omega
    rw [RingWriter.used, RingWriter.distance, hw, hread, hround, Nat.mod_self]
  have hfree : r.free = r.size - 1 := by rw [RingWriter.free, hused, Nat.sub_zero]
  unfold RingWriter.choose
  cases r.mode with
  | once => exact if_pos (by omega)
  | loop =>
    dsimp only
    rw [if_pos (by omega), if_pos (by omega)]

/-- The START record is placed at BASE, if the Ring Writer has no burst to abandon; nothing else follows (R111,
R137). -/
theorem takeHead_armSession (hr : s.rw.described) :
    takeHead (armSession s) = armSession s ∨ ∃ p, takeHead (armSession s) = startPlacement p (armSession s) := by
  have hchoose := choose_of_fresh (r := (armSession s).rw)
    (x := { body := .start s.tb.ticks s.sc.startLevel, timeLost := false, time := 0#20 }) hr rfl rfl
    (show 2 ≤ 15 by decide)
  unfold takeHead
  split
  · exact .inr ⟨_, formPlacement_of_write rfl hchoose⟩
  · exact .inl rfl

/-- With no tag to grant, the arbiter grants at most a ring burst, which leaves the ring's pointers and flags alone. -/
theorem arbitrate_of_no_tag (h : (∃ d, s.mpa.port = .issuing d) ∨ s.fq = []) :
    arbitrate s = s ∨ ∃ b, arbitrate s = grantRing b s := by
  unfold arbitrate
  split
  case h_1 => exact .inl rfl
  case h_2 hready =>
    have hfq : s.fq = [] := h.resolve_left fun ⟨d, hd⟩ => by rw [hready] at hd; cases hd
    rw [hfq]
    split
    case h_1 => exact .inl rfl
    case h_2 b _ _ => exact .inr ⟨b, rfl⟩
    case h_3 hcons _ => cases hcons
    case h_4 hcons _ => cases hcons

theorem no_tag_of_noGrant (h : s.noGrant = true) : (∃ d, s.mpa.port = .issuing d) ∨ s.fq = [] := by
  unfold State.noGrant at h
  split at h
  case h_1 d hd => exact .inl ⟨d, hd⟩
  case h_2 =>
    rw [Bool.and_eq_true, List.isEmpty_iff] at h
    exact .inr h.1

/-- What ARM leaves is what TABLE 3.3 makes of the state, but for the first burst of the START record. -/
theorem armed_eq (hr : s.rw.described) (hg : s.noGrant = true) (ht : arbitrate (takeHead (armSession s)) = t) :
    (t.rw.write = s.rw.base ∧ t.rw.read = s.rw.base ∧ t.rw.ringDone = false ∧ t.rw.armed = true) ∧
      t = { armSession s with rw := t.rw, mpa := t.mpa } := by
  have hgrant : ∀ u : State, u.fq = s.fq → u.mpa = s.mpa → (∃ d, u.mpa.port = .issuing d) ∨ u.fq = [] := by
    intro u hfq hmpa
    rw [hfq, hmpa]
    exact no_tag_of_noGrant hg
  subst ht
  obtain htake | ⟨p, htake⟩ := takeHead_armSession hr
  · obtain harb | ⟨b, harb⟩ := arbitrate_of_no_tag (hgrant (armSession s) rfl rfl)
    all_goals rw [htake, harb]; exact ⟨⟨rfl, rfl, rfl, rfl⟩, rfl⟩
  · obtain harb | ⟨b, harb⟩ := arbitrate_of_no_tag (hgrant (startPlacement p (armSession s)) rfl rfl)
    all_goals rw [htake, harb]; exact ⟨⟨rfl, rfl, rfl, rfl⟩, rfl⟩

end Sys2Proof.Machine

namespace Sys2Proof.Proofs.Sessions

open Sys2Proof.Machine

/-- Settles O24. -/
theorem clearCommand : Obligations.ClearCommand := by
  intro s hf
  rw [exec_clear, takeCommand_of_receiving hf]
  exact ⟨fun h => by rw [clear_of_fault h], fun h => by rw [clear_of_not_fault h]⟩

/-- Settles O12, one check after the other. -/
theorem putSession : Obligations.PutSession := by
  intro b s hf
  rw [exec_putSession, takeCommand_of_receiving hf]
  refine ⟨fun hs => ?state, fun hs hbad => ?badarg, fun hs v on hv hon hlimit => ?taken⟩
  case state => rw [putSession_of_state hs]
  case badarg => rw [putSession_of_badarg hs (sessionConfigOf_of_bad hbad)]
  case taken => rw [putSession_of_taken hs (sessionConfigOf_of_good hv hon hlimit)]

/-- Settles O22: the level request of a taken LEVEL, by whether it changes the level and makes a record. -/
theorem levelCommand : Obligations.LevelCommand := by
  intro v s hf
  rw [exec_level, takeCommand_of_receiving hf]
  refine ⟨fun hs => by rw [level_of_state hs], fun hw hv => by rw [level_of_badarg hw hv],
    fun l hw hv hrest => ?_⟩
  rw [level_of_taken hw hv]
  refine ⟨fun hsame => ?same, fun _ hoff => ?silent, fun hne hon hd hb => ?record⟩
  case same => rw [hsame, levelRequest_same, finish_of_atRest hrest]
  case silent =>
    rw [levelRequest_of_no_record hw (.inr hoff), finish_of_atRest (atRest_of_level hrest hw l s.cq s.rbl s.au)]
  case record =>
    obtain ⟨hcq, heq⟩ := levelRequest_offered (c := .command) (i := 0) hw hne hon hd hb rfl
    generalize levelRequest l .command 0 s = t at hcq heq ⊢
    have hdone : finish t = t := by
      rw [heq]
      exact finish_of_atRest (atRest_of_level hrest hw l t.cq t.rbl t.au)
    rw [hdone]
    refine ⟨t, rfl, by rw [heq], hcq, ?_⟩
    rw [heq]
    exact ⟨rfl, rfl, rfl, rfl, rfl, rfl, rfl, rfl⟩

/-- Settles O19: the checks, and the results of TABLE 3.3. -/
theorem armStartsASession : Obligations.ArmStartsASession := by
  intro s hf
  rw [exec_arm, takeCommand_of_receiving hf]
  refine ⟨fun hs => by rw [arm_of_state hs], fun hs hr => by rw [arm_of_badarg hs hr], fun hs hr hg => ?_⟩
  have hvalid : s.rw.base.toNat < s.rw.limit.toNat := by
    obtain ⟨-, -, hsmall, -⟩ := hr
    omega
  obtain ⟨⟨hwrite, hread, hring, harmed⟩, heq⟩ := armed_eq hr hg rfl
  rw [arm_of_taken hs hvalid]
  generalize arbitrate (takeHead (armSession s)) = t at hwrite hread hring harmed heq ⊢
  refine ⟨t, rfl, by rw [heq]; rfl, fun n => ?totals, fun n => ?rows, by rw [heq]; rfl, hwrite, hread, hring, harmed,
    fun n => ?counters, ?frame⟩
  case totals =>
    rw [heq]
    simp [armSession]
  case rows =>
    rw [heq]
    exact mapRows_getElem s _ n.val n.isLt
  case counters =>
    rw [heq]
    exact mapVec_getElem Counter.load s.counters n.val n.isLt
  case frame =>
    rw [heq]
    exact ⟨rfl, rfl, rfl, rfl, rfl, rfl, rfl⟩

end Sys2Proof.Proofs.Sessions
end

section
/-! The release of both slots with STOP_FORWARD, in one closed form (R97), and what a stop request makes of the path
(R48, R50): obligation O21. -/

namespace Sys2Proof.Machine

variable {s : State} {n : Fin 2} {p : Parked}

/-! ### Records of released writes, outside WATCHING -/

/-- The state with the queue, the Record Builder, the Ring Writer and the Alert Unit of `m`: what the offer of a record
touches outside WATCHING. -/
def State.withOffer (s m : State) : State := { s with cq := m.cq, rbl := m.rbl, rw := m.rw, au := m.au }

theorem offer_of_not_watching (h : s.sc.session ≠ .watching) (own : Bool) (b : RecordBody) :
    offer own b s = s.withOffer (offer own b s) := by
  unfold offer
  split
  · rfl
  · split
    case h_1 a ha =>
      obtain ⟨-, heq⟩ := admitBundle_some ha
      have hw : a.sc.session ≠ .watching := by
        rw [heq]
        exact h
      rw [takeHead_of_not_watching hw, heq]
      rfl
    case h_2 =>
      rw [dropRecord_eq]
      rfl

theorem makeHit_of_not_watching (h : s.sc.session ≠ .watching) (own : Bool) (x : HitRecord) :
    makeHit own x s = s.withOffer (makeHit own x s) := by
  unfold makeHit
  split
  · exact offer_of_not_watching h own _
  · rfl

/-! ### The release of one slot with STOP_FORWARD -/

/-- The row of a parked transaction that is released with STOP_FORWARD: a write's record is made at the release (R91,
R97, R107). -/
def Row.stopForwarded (r : Row) : Row :=
  { r with state := .queued, carry := .stopForward, owed := r.owed && decide (r.kind = .read) }

/-- A write that owes a record carries STOP_FORWARD once the record is made. -/
theorem Row.stopForwarded_of_record {r : Row} (h : (r.owed && decide (r.kind = .write)) = true) :
    { forwardFields .stopForward [] { r with owed := false } with state := .queued } = r.stopForwarded := by
  rw [Bool.and_eq_true, decide_eq_true_eq] at h
  simp [forwardFields, Row.stopForwarded, h.2]

/-- A read keeps its debt, and a write without one has none to keep. -/
theorem Row.stopForwarded_of_no_record {r : Row} (h : ¬ (r.owed && decide (r.kind = .write)) = true) :
    { forwardFields .stopForward [] r with state := .queued } = r.stopForwarded := by
  have howed : (r.owed && decide (r.kind = .read)) = r.owed := by
    cases hk : r.kind <;> simp_all
  simp [forwardFields, Row.stopForwarded, howed]

theorem Row.stopForwarded_idem (r : Row) : r.stopForwarded.stopForwarded = r.stopForwarded := by
  have howed : (r.stopForwarded.owed && decide (r.kind = .read)) = r.stopForwarded.owed := by
    rw [Row.stopForwarded, Bool.and_assoc, Bool.and_self]
  exact congrArg (fun b => { r.stopForwarded with owed := b }) howed

/-- The rows with the row of the tag, if any, changed by `f`. -/
def changeRow (f : Row → Row) (v : Vector Row 8) : Option (Fin 8) → Vector Row 8
  | none => v
  | some tag => v.set tag (f v[tag])

theorem changeRow_row (f : Row → Row) (v : Vector Row 8) (o : Option (Fin 8)) (u : Fin 8) :
    (changeRow f v o)[u] = if o = some u then f v[u] else v[u] := by
  cases o with
  | none => rw [if_neg nofun]; rfl
  | some tag =>
    refine (row_set v tag u _).trans ?_
    by_cases hu : u = tag
    · rw [if_pos hu, if_pos (congrArg some hu.symm), hu]
    · rw [if_neg hu, if_neg fun he => hu (Option.some.inj he).symm]

/-- The state with slot `n` released, but for the record of a write. -/
def State.slotReleased (s : State) (n : Fin 2) : State :=
  { s with rows := changeRow Row.stopForwarded s.rows (s.slotTag n), fq := s.fq ++ (s.slotTag n).toList,
           hold := { s.hold with slots := s.hold.slots.set n none } }

theorem slotReleased_row (s : State) (n : Fin 2) (u : Fin 8) :
    (s.slotReleased n).rows[u] = if s.slotTag n = some u then s.rows[u].stopForwarded else s.rows[u] :=
  changeRow_row ..

theorem slotReleased_no_debt (howed : ∀ u : Fin 8, s.rows[u].owed = false) (n : Fin 2) (u : Fin 8) :
    (s.slotReleased n).rows[u].owed = false := by
  rw [slotReleased_row]
  split
  · rw [Row.stopForwarded, howed u, Bool.false_and]
  · exact howed u

theorem slotReleased_of_free (h : s.hold.slots[n] = none) : s.slotReleased n = s := by
  have htag : s.slotTag n = none := by rw [State.slotTag, h]; rfl
  have hslots : s.hold.slots.set n none = s.hold.slots := by
    rw [← h]
    exact Vector.set_getElem_self _
  rw [State.slotReleased, htag, hslots]
  simp [changeRow]

/-- The slot is FREE, and the tag it held joins the Forward Queue with its row (R35, R82). -/
theorem slotReleased_of_parked (h : s.hold.slots[n] = some p) {q : Row}
    (hq : ({ q with state := .queued } : Row) = s.rows[p.tag].stopForwarded) :
    s.slotReleased n = (freeSlot n s).withQueued p.tag q := by
  have htag : s.slotTag n = some p.tag := by rw [State.slotTag, h]; rfl
  rw [State.slotReleased, htag, State.withQueued, hq]
  rfl

theorem queueForward_modifyRow (tag : Fin 8) (f : Row → Row) (s : State) :
    queueForward tag (modifyRow tag f s) = s.withQueued tag (f s.rows[tag]) := by
  simp [queueForward, modifyRow, State.withQueued]

theorem modifyRow_clearDebt (tag : Fin 8) (f : Row → Row) (s : State) :
    modifyRow tag f (clearDebt tag s) = modifyRow tag (fun r => f { r with owed := false }) s := by
  simp [modifyRow, clearDebt]

/-- A release with STOP_FORWARD outside WATCHING, whether or not it makes a record. -/
theorem releaseSlot_stopForward (h : s.sc.session ≠ .watching) (n : Fin 2) :
    ∃ m, releaseSlot (makeHit false) n .stopForward [] s = (s.slotReleased n).withOffer m := by
  cases hp : s.hold.slots[n] with
  | none => exact ⟨s, by rw [releaseSlot_of_free hp, slotReleased_of_free hp]; rfl⟩
  | some p =>
    simp only [releaseSlot, hp, Disposition.answers, Bool.or_false, Bool.false_eq_true, if_false,
      queueForward_modifyRow]
    split
    case isTrue hdebt =>
      rw [slotReleased_of_parked hp (Row.stopForwarded_of_record hdebt), ← queueForward_modifyRow,
        modifyRow_clearDebt, queueForward_modifyRow, makeHit_of_not_watching (s := freeSlot n s) h]
      exact ⟨_, rfl⟩
    case isFalse hdebt =>
      rw [slotReleased_of_parked hp (Row.stopForwarded_of_no_record hdebt)]
      exact ⟨s, rfl⟩

/-- A release with STOP_FORWARD makes no record when no row owes one. -/
theorem releaseSlot_stopForward_of_no_debt (make : HitRecord → State → State)
    (howed : ∀ u : Fin 8, s.rows[u].owed = false) (n : Fin 2) :
    releaseSlot make n .stopForward [] s = s.slotReleased n := by
  cases hp : s.hold.slots[n] with
  | none => rw [releaseSlot_of_free hp, slotReleased_of_free hp]
  | some p =>
    have hdebt : (freeSlot n s).rows[p.tag].owed = false := howed p.tag
    simp only [releaseSlot, hp, Disposition.answers, Bool.or_false, Bool.false_eq_true, if_false,
      queueForward_modifyRow, hdebt, Bool.false_and]
    refine (slotReleased_of_parked hp (Row.stopForwarded_of_no_record ?_)).symm
    rw [howed p.tag]
    exact Bool.false_ne_true

/-! ### The release of both slots with STOP_FORWARD (R97, R98, R99) -/

/-- The state with slot 0 and then slot 1 released, but for the records of writes. -/
def State.slotsReleased (s : State) : State := (s.slotReleased 0).slotReleased 1

/-- The tags that the slots hold, slot 0 before slot 1. -/
def State.parkedTags (s : State) : List (Fin 8) := s.hold.slots.toList.filterMap fun p => p.map (·.tag)

theorem slots_toList (v : Vector (Option Parked) 2) : v.toList = [v[0], v[1]] := by
  rw [← List.ofFn_getElem (xs := v.toList)]
  simp [List.ofFn_succ]

theorem parkedTags_eq (s : State) : s.parkedTags = (s.slotTag 0).toList ++ (s.slotTag 1).toList := by
  have h0 : s.slotTag 0 = s.hold.slots[0].map (·.tag) := rfl
  have h1 : s.slotTag 1 = s.hold.slots[1].map (·.tag) := rfl
  rw [State.parkedTags, slots_toList, h0, h1]
  cases s.hold.slots[0] <;> cases s.hold.slots[1] <;> rfl

theorem slotReleased_slotTag (s : State) : (s.slotReleased 0).slotTag 1 = s.slotTag 1 := by
  simp [State.slotTag, State.slotReleased]

theorem slotsReleased_row (s : State) (u : Fin 8) :
    s.slotsReleased.rows[u] =
      if s.slotTag 0 = some u ∨ s.slotTag 1 = some u then s.rows[u].stopForwarded else s.rows[u] := by
  rw [State.slotsReleased, slotReleased_row, slotReleased_slotTag, slotReleased_row]
  by_cases h0 : s.slotTag 0 = some u
  · rw [if_pos h0, Row.stopForwarded_idem, ite_self, if_pos (.inl h0)]
  · rw [if_neg h0]
    by_cases h1 : s.slotTag 1 = some u
    · rw [if_pos h1, if_pos (.inr h1)]
    · rw [if_neg h1, if_neg (not_or.2 ⟨h0, h1⟩)]

theorem slotsReleased_fq (s : State) : s.slotsReleased.fq = s.fq ++ s.parkedTags := by
  rw [parkedTags_eq, ← List.append_assoc, ← slotReleased_slotTag]
  rfl

theorem slotsReleased_hold (s : State) :
    s.slotsReleased.hold = { s.hold with slots := Vector.replicate 2 none } := by
  have hslots : (s.hold.slots.set 0 none).set 1 none = Vector.replicate 2 none := by
    refine Vector.ext fun i hi => ?_
    simp only [Vector.getElem_set, Vector.getElem_replicate]
    split
    · rfl
    · rw [if_pos (by omega)]
  rw [← hslots]
  rfl

theorem releaseBoth_eq (h : s.sc.session ≠ .watching) :
    ∃ m, releaseBoth (makeHit false) s = s.slotsReleased.withOffer m := by
  obtain ⟨m, hm⟩ := releaseSlot_stopForward h 0
  obtain ⟨m', hm'⟩ := releaseSlot_stopForward (s := (s.slotReleased 0).withOffer m) h 1
  exact ⟨m', by rw [releaseBoth, hm, hm']; rfl⟩

theorem releaseBoth_of_no_debt (make : HitRecord → State → State) (howed : ∀ u : Fin 8, s.rows[u].owed = false) :
    releaseBoth make s = s.slotsReleased := by
  rw [releaseBoth, releaseSlot_stopForward_of_no_debt make howed]
  exact releaseSlot_stopForward_of_no_debt make (slotReleased_no_debt howed 0) 1

/-! ### Stop requests (R48, R50) -/

/-- The session has left WATCHING for STOPPING, every candidate and every expiry that stood is gone, and both slots are
to be released (R50). -/
def State.frozen (s : State) (reason : StopReason) : State :=
  freeze { s with sc := { s.sc with session := .stopping, reason := reason } }

theorem frozen_row (s : State) (reason : StopReason) (u : Fin 8) :
    (s.frozen reason).rows[u] = { s.rows[u] with late := 0#16 } := mapRows_getElem ..

theorem frozen_slotTag (s : State) (reason : StopReason) (n : Fin 2) : (s.frozen reason).slotTag n = s.slotTag n := rfl

theorem frozen_counter (s : State) (reason : StopReason) (c : Fin 4) :
    (s.frozen reason).counters[c] = { s.counters[c] with tickPending := false } := mapVec_getElem ..

theorem stopRequest_eq {reason : StopReason} (h : s.sc.session = .watching) :
    ∃ m, stopRequest reason s = (s.frozen reason).slotsReleased.withOffer m := by
  rw [stopRequest_of_watching h]
  exact releaseBoth_eq (s := s.frozen reason) (show Session.stopping ≠ .watching by decide)

theorem not_owed_of_someOwes (h : s.someOwes = false) (u : Fin 8) : s.rows[u].owed = false := by
  by_contra hu
  rw [someOwes_iff.2 ⟨u, eq_true_of_ne_false hu⟩] at h
  cases h

theorem frozen_no_debt {reason : StopReason} (h : s.someOwes = false) (u : Fin 8) :
    (s.frozen reason).rows[u].owed = false := by
  rw [frozen_row]
  exact not_owed_of_someOwes h u

/-- Where no row owes a record, a stop request offers none. -/
theorem stopRequest_of_no_debt {reason : StopReason} (h : s.sc.session = .watching) (howed : s.someOwes = false) :
    stopRequest reason s = (s.frozen reason).slotsReleased := by
  rw [stopRequest_of_watching h]
  exact releaseBoth_of_no_debt (s := s.frozen reason) (makeHit false) (frozen_no_debt howed)

end Sys2Proof.Machine

namespace Sys2Proof.Proofs.Sessions

open Sys2Proof.Machine

/-- Settles O21: the closed form of the release of both slots, on the frozen state. -/
theorem enteringStopping : Obligations.EnteringStopping := by
  intro reason s
  refine ⟨fun h => stopRequest_of_not_watching h, fun hw hsound => ?_⟩
  obtain ⟨-, ⟨hparked, -⟩, -⟩ := hsound
  obtain ⟨m, hm⟩ := stopRequest_eq (reason := reason) hw
  rw [hm]
  refine ⟨rfl, slotsReleased_fq _, fun n => ?slots, fun n p hp => ?parked, fun u hu => ?others,
    frozen_counter s reason, rfl, rfl⟩
  case slots =>
    have hhold := slotsReleased_hold (s.frozen reason)
    simp only [State.withOffer, hhold, Fin.getElem_fin, Vector.getElem_replicate]
  case parked =>
    have hrow := slotsReleased_row (s.frozen reason) p.tag
    rw [frozen_slotTag, frozen_slotTag, if_pos (parkedTag_iff.2 ⟨n, p, hp, rfl⟩), frozen_row] at hrow
    exact hrow
  case others =>
    have hrow := slotsReleased_row (s.frozen reason) u
    rw [frozen_slotTag, frozen_slotTag, if_neg fun h => hu ((hparked u).2 h), frozen_row] at hrow
    exact hrow

end Sys2Proof.Proofs.Sessions
end

section
/-! What a stop request has ended stays ended until the end of its step, whatever else follows in it, and the STOP record
that is offered at once (R50, R51, R112): obligation O20. -/

namespace Sys2Proof.Machine

variable {s t v : State}

/-! ### STOPPING, once entered, in what follows of the step -/

/-- The session is in STOPPING as `v` has it but for the STOP record, no slot is PARKED and no candidate is left, and the
counters and the entries are those of `v`. -/
structure State.Halted (s v : State) : Prop where
  session  : s.sc = { v.sc with stopRecord := s.sc.stopRecord }
  stopping : v.sc.session = .stopping
  slots    : ∀ n : Fin 2, s.hold.slots[n] = none
  late     : ∀ u : Fin 8, s.rows[u].late = 0#16
  counters : s.counters = v.counters
  entries  : s.entries = v.entries

theorem State.Halted.not_watching (h : s.Halted v) : s.sc.session ≠ .watching := by
  rw [h.session, h.stopping]
  decide

theorem State.Halted.congr (h : s.Halted v) (hsc : t.sc = { s.sc with stopRecord := t.sc.stopRecord })
    (hhold : t.hold = s.hold) (hrows : t.rows = s.rows) (hcounters : t.counters = s.counters)
    (hentries : t.entries = s.entries) : t.Halted v := by
  refine ⟨?_, h.stopping, hhold ▸ h.slots, hrows ▸ h.late, hcounters.trans h.counters, hentries.trans h.entries⟩
  rw [hsc, h.session]

theorem State.Halted.withOffer (h : s.Halted v) (m : State) : (s.withOffer m).Halted v :=
  h.congr rfl rfl rfl rfl rfl

/-- A row may change, if no candidate comes with it. -/
theorem State.Halted.modifyRow (h : s.Halted v) (tag : Fin 8) {f : Row → Row}
    (hf : ∀ r, r.late = 0#16 → (f r).late = 0#16) : (modifyRow tag f s).Halted v := by
  refine ⟨h.session, h.stopping, h.slots, fun u => ?_, h.counters, h.entries⟩
  have hrow : (Machine.modifyRow tag f s).rows[u] = if u = tag then f s.rows[tag] else s.rows[u] := row_set ..
  rw [hrow]
  split
  · exact hf _ (h.late tag)
  · exact h.late u

theorem State.Halted.queueForward (h : s.Halted v) (tag : Fin 8) : (queueForward tag s).Halted v := by
  have hqueue : ({ s with fq := s.fq ++ [tag] } : State).Halted v := h.congr rfl rfl rfl rfl rfl
  exact hqueue.modifyRow tag fun _ => id

theorem State.Halted.deliverRow (h : s.Halted v) (tag : Fin 8) (status : RespStatus) :
    (deliverRow tag status s).Halted v := by
  have hrespond : (respond { status := status, tag := tag, data := responseData s.rows[tag] status } s).Halted v :=
    h.congr rfl rfl rfl rfl rfl
  exact hrespond.modifyRow tag fun _ _ => rfl

theorem State.Halted.clearDebt (h : s.Halted v) (tag : Fin 8) : (clearDebt tag s).Halted v :=
  h.modifyRow tag fun _ => id

theorem State.Halted.countLost (h : s.Halted v) (n : Nat) : (countLost n s).Halted v :=
  h.withOffer (Machine.countLost n s)

theorem State.Halted.makeHit (h : s.Halted v) (own : Bool) (x : HitRecord) : (makeHit own x s).Halted v := by
  rw [makeHit_of_not_watching h.not_watching]
  exact h.withOffer _

/-! ### Decisions: hits hand on nothing but totals and causes, and nothing is parked (R20, R34, R86) -/

theorem State.Halted.handOn (h : s.Halted v) (tag : Fin 8) (o : MatchOutcome) : (handOn tag o s).Halted v := by
  have hhits : (raiseHits o.alerts (countHits o.early s)).Halted v := by
    rw [raiseHits_eq]
    exact h.congr rfl rfl rfl rfl rfl
  have hlevel : (requestLevel o.level (raiseHits o.alerts (countHits o.early s))).Halted v := by
    unfold Machine.requestLevel
    split
    · rwa [levelRequest_of_not_watching hhits.not_watching]
    · exact hhits
  have hrow := hlevel.modifyRow tag (f := fun r => { r with notified := r.notified ||| o.notices }) fun _ => id
  unfold Machine.handOn Machine.notify
  rwa [counterEvent_of_not_watching hrow.not_watching]

theorem State.Halted.decideForward (h : s.Halted v) (tag : Fin 8) (d : Disposition) (refused : Bool) :
    (decideForward tag d refused s).Halted v := by
  have hrow := h.modifyRow tag (f := fun r => { r with carry := d, holdRefused := refused }) fun _ => id
  unfold Machine.decideForward Machine.writeRecord
  split
  · exact ((hrow.makeHit true _).clearDebt tag).queueForward tag
  · exact hrow.queueForward tag

theorem State.Halted.decideBlock (h : s.Halted v) (tag : Fin 8) (status : RespStatus) :
    (decideBlock tag status s).Halted v := by
  have hrow := h.modifyRow tag (f := fun r => { r with
      late := 0#16
      readBuf := if r.kind = .read ∧ status = .okay then List.replicate r.beats 0#32 else [] }) fun _ _ => rfl
  unfold Machine.decideBlock
  dsimp only
  split
  · exact ((hrow.makeHit true _).clearDebt tag).deliverRow tag status
  · exact hrow.deliverRow tag status

theorem State.Halted.carryOut (h : s.Halted v) (tag : Fin 8) (x : Verdict) : (carryOut tag x s).Halted v := by
  cases x with
  | forward => exact h.decideForward tag _ _
  | block status => exact h.decideBlock tag status
  | hold entry =>
    have hpass : Machine.carryOut tag (.hold entry) s = Machine.decideForward tag .stopForward false s :=
      if_neg h.not_watching
    rw [hpass]
    exact h.decideForward tag _ _

theorem State.Halted.decideRequest (h : s.Halted v) (tag : Fin 8) (o : MatchOutcome) :
    (decideRequest tag o s).Halted v := by
  have hcarried := (h.handOn tag o).carryOut tag o.verdict
  have hstop : (requestStop o.stop (Machine.carryOut tag o.verdict (Machine.handOn tag o s))).Halted v := by
    unfold requestStop
    split
    · rwa [stopRequest_of_not_watching hcarried.not_watching]
    · exact hcarried
  exact hstop.congr rfl rfl rfl rfl rfl

/-! ### The end of the step (assumption 7) -/

theorem State.Halted.loseWaitingRow (h : s.Halted v) (tag : Fin 8) : (loseWaitingRow tag s).Halted v := by
  unfold Machine.loseWaitingRow
  split
  · exact (h.countLost 1).deliverRow tag _
  · exact h

theorem State.Halted.loseWaitingWrite (h : s.Halted v) : (loseWaitingWrite s).Halted v := by
  unfold Machine.loseWaitingWrite
  split
  case h_1 tag _ o _ =>
    have hlost : State.Halted (if s.rows[tag].owed then Machine.countLost 1 s else s) v := by
      split
      · exact h.countLost 1
      · exact h
    exact (hlost.clearDebt tag).decideRequest tag o
  all_goals exact h

theorem State.Halted.endLosslessWaits (h : s.Halted v) : (endLosslessWaits s).Halted v := by
  have hrows : ∀ l : List (Fin 8), (l.foldl (fun a u => Machine.loseWaitingRow u a) s).Halted v := by
    intro l
    induction l generalizing s with
    | nil => exact h
    | cons u l ih => exact ih (h.loseWaitingRow u)
  unfold Machine.endLosslessWaits
  split
  · exact h
  · exact (hrows allTags).loseWaitingWrite

theorem State.Halted.stopProgress (h : s.Halted v) : (stopProgress s).Halted v := by
  obtain ⟨x, hx⟩ := stopProgress_eq s
  rw [hx]
  exact h.congr rfl rfl rfl rfl rfl

/-- A request that goes on is taken in pass-through, with no candidate and no debt (R7, R33). -/
theorem State.Halted.conflictGate (h : s.Halted v) (r : Request) : (conflictGate r s).Halted v := by
  have hidle : s.unhanded.Halted v := h.congr rfl rfl rfl rfl rfl
  have htaken : (Machine.modifyRow r.tag (fun _ => takenRow s.unhanded r) s.unhanded).Halted v :=
    hidle.modifyRow r.tag fun _ _ => rfl
  have howed : (Machine.modifyRow r.tag (fun _ => takenRow s.unhanded r) s.unhanded).rows[r.tag].owed = false := by
    rw [Fin.getElem_fin, modifyRow_same]
    rfl
  unfold Machine.conflictGate
  split
  · exact h.congr rfl rfl rfl rfl rfl
  · change (takeRequest r s.unhanded).Halted v
    rw [takeRequest, if_neg hidle.not_watching, losslessGate_of_no_debt howed]
    exact htaken.decideRequest r.tag _

theorem State.Halted.resumeWait (h : s.Halted v) : (resumeWait s).Halted v := by
  unfold Machine.resumeWait
  split
  · split
    · exact h
    · exact h.conflictGate _
  · exact h.conflictGate _
  · exact h
  · exact h

/-- A grant changes no row but to ISSUED. -/
theorem arbitrate_late (h : ∀ u : Fin 8, s.rows[u].late = 0#16) (u : Fin 8) : (arbitrate s).rows[u].late = 0#16 := by
  have hgrant : ∀ (tag : Fin 8) (rest : List (Fin 8)) (n : Nat), (grantForward tag rest n s).rows[u].late = 0#16 := by
    intro tag rest n
    have hrow : (grantForward tag rest n s).rows[u] =
        if u = tag then { s.rows[tag] with state := .issued } else s.rows[u] := row_set ..
    rw [hrow]
    split
    · exact h tag
    · exact h u
  unfold arbitrate
  split
  · exact h u
  · split
    · exact h u
    · exact h u
    · exact hgrant _ _ _
    · split
      · exact h u
      · exact hgrant _ _ _

theorem arbitrate_others (s : State) :
    (arbitrate s).sc = s.sc ∧ (arbitrate s).counters = s.counters ∧ (arbitrate s).entries = s.entries := by
  unfold arbitrate
  repeat' split
  all_goals exact ⟨rfl, rfl, rfl⟩

/-- STOPPING may end, and the arbiter may grant; the rest of what the stop request ended stays ended. -/
theorem State.Halted.finish (h : s.Halted v) :
    ∃ c, (finish s).sc = { v.sc with stopRecord := c, session := (finish s).sc.session } ∧
      (finish s).sc.session ∈ [.stopping, .stopped] ∧ (∀ n : Fin 2, (finish s).hold.slots[n] = none) ∧
      (∀ u : Fin 8, (finish s).rows[u].late = 0#16) ∧ (finish s).counters = v.counters ∧
      (finish s).entries = v.entries := by
  have hend := h.endLosslessWaits.stopProgress.resumeWait.endLosslessWaits.stopProgress
  unfold Machine.finish
  generalize Machine.stopProgress (Machine.endLosslessWaits (Machine.resumeWait (Machine.stopProgress
    (Machine.endLosslessWaits s)))) = u at hend ⊢
  have hsession : (stopComplete u).sc.session ∈ [.stopping, .stopped] := by
    have hu : u.sc.session = .stopping := by rw [hend.session, hend.stopping]
    unfold stopComplete
    split
    · rw [raiseMapped_eq]
      exact .tail _ (.head _)
    · rw [hu]
      exact .head _
  obtain ⟨x, hx⟩ := stopComplete_eq u
  obtain ⟨hsc, hcounters, hentries⟩ := arbitrate_others (stopComplete u)
  refine ⟨u.sc.stopRecord, ?_, hsc ▸ hsession, ?_, arbitrate_late ?_, ?_, ?_⟩
  · rw [hsc, hx, hend.session]
  · rw [arbitrate_hold, stopComplete_hold]
    exact hend.slots
  · rw [hx]
    exact hend.late
  · rw [hcounters, hx]
    exact hend.counters
  · rw [hentries, hx]
    exact hend.entries

/-! ### The STOP record of a stop request, offered at once (R50, R51, R112) -/

theorem exec_stop (s : State) : exec .stop s = .next (takeCommand 0 stop s) := rfl

theorem stop_of_state (h : s.sc.session ≠ .watching) : stop s = (s, [0x02#8]) := by
  rw [stop, if_neg h]
  rfl

theorem stop_of_taken (h : s.sc.session = .watching) : stop s = (finish (stopRequest .command s), [0x00#8]) := by
  rw [stop, if_pos h]
  rfl

/-- A stop request ends what R50 says. -/
theorem halted_stopRequest {reason : StopReason} (h : s.sc.session = .watching) :
    (stopRequest reason s).Halted (s.frozen reason) := by
  obtain ⟨m, hm⟩ := stopRequest_eq (reason := reason) h
  rw [hm]
  have hreleased : (s.frozen reason).slotsReleased.Halted (s.frozen reason) := by
    refine ⟨rfl, rfl, fun n => ?slots, fun u => ?late, rfl, rfl⟩
    case slots =>
      rw [slotsReleased_hold]
      exact Vector.getElem_replicate ..
    case late =>
      rw [slotsReleased_row, frozen_row]
      split <;> rfl
  exact hreleased.withOffer m

theorem offerStop_of_full (hd : s.rw.ringDone = false)
    (h : s.cq.room false < wordsIn (bundle s (.stop s.tb.ticks s.sc.reason))) :
    offerStop s = { s with sc := { s.sc with stopRecord := .due } } := by
  rw [offerStop, hd, admitBundle_of_full h]
  rfl

theorem offerStop_of_room (hd : s.rw.ringDone = false) (hb : s.rw.writer ≠ .idle)
    (h : wordsIn (bundle s (.stop s.tb.ticks s.sc.reason)) ≤ s.cq.room false) :
    (offerStop s).cq =
        { s.cq with records := s.cq.records ++ bundle s (.stop s.tb.ticks s.sc.reason), pendingLoss := 0#32 } ∧
      offerStop s = { s with sc := { s.sc with stopRecord := .placed }, cq := (offerStop s).cq,
                             rbl := (offerStop s).rbl, au := (offerStop s).au } := by
  obtain ⟨a, ha, hcq, heq⟩ := admitBundle_of_room h
  have hplaced : offerStop s = { a with sc := { a.sc with stopRecord := .placed } } := by
    have hbusy : ({ a with sc := { a.sc with stopRecord := .placed } } : State).rw.writer ≠ .idle := by
      rw [heq]
      exact hb
    rw [offerStop, hd, ha]
    exact takeHead_of_busy hbusy
  rw [hplaced, hcq, heq]
  exact ⟨rfl, rfl⟩

theorem stopProgress_of_no_debt (hs : s.sc.session = .stopping) (hrecord : s.sc.stopRecord = .notDue)
    (howed : s.someOwes = false) : stopProgress s = offerStop s := by
  simp only [stopProgress, hs, hrecord, howed, if_true, Bool.false_eq_true, if_false]

theorem stopComplete_of_busy (h : s.rw.writer ≠ .idle) : stopComplete s = s := by
  refine if_neg fun hs => h ?_
  obtain ⟨-, -, -, -, hidle⟩ := hs
  rw [RingWriter.isIdle, Bool.and_eq_true, decide_eq_true_eq] at hidle
  exact hidle.1

/-- A request that waits for an ORPHAN row or at the LOSSLESS gate waits on through a stop request. -/
theorem waitStands_slotsReleased {reason : StopReason} (h : s.waitStands = true) (hsound : s.pathSound)
    (hc : ∀ r, s.rqp.acceptance ≠ .waitConflict r) (hd : s.rw.ringDone = false) :
    (s.frozen reason).slotsReleased.waitStands = true := by
  obtain ⟨-, ⟨hparked, -⟩, -⟩ := hsound
  have hport : (s.frozen reason).slotsReleased.rqp.acceptance = s.rqp.acceptance := rfl
  unfold State.waitStands at h ⊢
  rw [hport]
  split at h
  case h_1 => rfl
  case h_2 r hr =>
    have hrow : s.rows[r.tag].state = .orphan := of_decide_eq_true h
    have hfree : ¬ (s.slotTag 0 = some r.tag ∨ s.slotTag 1 = some r.tag) := fun hp => by
      have hstate := (hparked r.tag).2 hp
      rw [hrow] at hstate
      cases hstate
    refine decide_eq_true ?_
    rw [slotsReleased_row, frozen_slotTag, frozen_slotTag, if_neg hfree, frozen_row]
    exact hrow
  case h_3 r hr => exact absurd hr (hc r)
  case h_4 =>
    change (true && !s.rw.ringDone) = true
    rw [hd]
    rfl

/-- Where no row owes a record and the port and the Ring Writer are busy, the offer of the STOP record is all that the
end of the step adds to a stop request. -/
theorem finish_stopRequest_of_no_debt {reason : StopReason} {d : Downstream} (hw : s.sc.session = .watching)
    (hrest : s.atRest) (hsound : s.pathSound) (howed : s.someOwes = false) (hrecord : s.sc.stopRecord = .notDue)
    (hc : ∀ r, s.rqp.acceptance ≠ .waitConflict r) (hp : s.mpa.port = .issuing d) (hd : s.rw.ringDone = false)
    (hb : s.rw.writer ≠ .idle) :
    finish (stopRequest reason s) = offerStop (stopRequest reason s) := by
  rw [stopRequest_of_no_debt hw howed]
  obtain ⟨hwait, -⟩ := hrest
  have hheld : (s.frozen reason).slotsReleased.RingHeld s.rw true := ⟨rfl, rfl, .inl hb, .inl ⟨rfl, hd⟩⟩
  have hnone : (s.frozen reason).slotsReleased.someOwes = false := by
    rw [← Bool.not_eq_true, someOwes_iff]
    rintro ⟨u, hu⟩
    rw [State.slotsReleased, slotReleased_no_debt (slotReleased_no_debt (frozen_no_debt howed) 0) 1 u] at hu
    cases hu
  have hprogress : stopProgress (s.frozen reason).slotsReleased = offerStop (s.frozen reason).slotsReleased :=
    stopProgress_of_no_debt (s := (s.frozen reason).slotsReleased) rfl hrecord hnone
  have hring : (offerStop (s.frozen reason).slotsReleased).rw = s.rw := hheld.offerStop.rw
  have hport : (offerStop (s.frozen reason).slotsReleased).mpa.port = .issuing d := by
    obtain ⟨x, hx⟩ := offerStop_of_not_watching (s := (s.frozen reason).slotsReleased)
      (show Session.stopping ≠ .watching by decide)
    rw [hx]
    exact hp
  rw [hheld.finish (waitStands_slotsReleased hwait hsound hc hd), hprogress,
    stopComplete_of_busy (by rwa [hring]), arbitrate_of_issuing hport]

end Sys2Proof.Machine

namespace Sys2Proof.Proofs.Sessions

open Sys2Proof.Machine

/-- Settles O20: what the stop request ended stays ended, and the STOP record is placed or DUE. -/
theorem stopCommand : Obligations.StopCommand := by
  intro s hf
  rw [exec_stop, takeCommand_of_receiving hf]
  refine ⟨fun hs => by rw [stop_of_state hs], fun hw => ?taken,
    fun d u hw hrest hsound howed hrecord hc hp hd hb hu => ?offered⟩
  case taken =>
    obtain ⟨c, hsc, hsession, hslots, hlate, hcounters, hentries⟩ := (halted_stopRequest hw).finish
    rw [stop_of_taken hw]
    refine ⟨_, rfl, hsession, by rw [hsc]; rfl, by rw [hsc]; rfl, hslots, hlate, fun n => ?_, hentries⟩
    rw [hcounters]
    exact frozen_counter s .command n
  case offered =>
    rw [stop_of_taken hw, finish_stopRequest_of_no_debt hw hrest hsound howed hrecord hc hp hd hb, ← hu]
    rw [stopRequest_of_no_debt hw howed] at hu
    subst hu
    refine ⟨fun hfull => ?due, fun hroom => ?placed, rfl⟩
    case due => rw [offerStop_of_full (s := (s.frozen .command).slotsReleased) hd hfull]
    case placed =>
      obtain ⟨hcq, heq⟩ := offerStop_of_room (s := (s.frozen .command).slotsReleased) hd hb hroom
      exact ⟨_, rfl, by rw [heq], hcq, by rw [heq]⟩

end Sys2Proof.Proofs.Sessions
end

section
/-! RESTART (R56, R41): what it makes of the path, stage by stage in closed form, and the request in the CONFLICT wait
that it lets go on: obligation O23. -/

namespace Sys2Proof.Machine

variable {s : State} {tag : Fin 8} {r : Request}

/-! ### RESPONDING rows are answered (R41) -/

/-- The responses of the rows of `l` that hold one. -/
def State.waitResponses (s : State) (l : List (Fin 8)) : List Response :=
  l.filterMap fun n => s.rows[n].wait.map fun w =>
    { status := w.status, tag := n, data := responseData s.rows[n] w.status }

/-- The state with the responses ready that the rows of `l` hold, in the order of `l`, and these rows EMPTY. -/
def State.answeredOn (s : State) (l : List (Fin 8)) : State :=
  { s with rows := Vector.ofFn fun u : Fin 8 => if u ∈ l ∧ s.rows[u].wait.isSome = true then Row.empty else s.rows[u],
           rqp := { s.rqp with ready := s.rqp.ready ++ s.waitResponses l } }

theorem answeredOn_row (s : State) (l : List (Fin 8)) (u : Fin 8) :
    (s.answeredOn l).rows[u] = if u ∈ l ∧ s.rows[u].wait.isSome = true then Row.empty else s.rows[u] :=
  Vector.getElem_ofFn u.isLt

theorem deliverRow_row (tag u : Fin 8) (status : RespStatus) (s : State) :
    (deliverRow tag status s).rows[u] = if u = tag then Row.empty else s.rows[u] := row_set ..

theorem deliverWaiting_of_none (h : s.rows[tag].wait = none) : deliverWaiting tag s = s := by
  unfold deliverWaiting
  split
  case h_1 hw => cases h.symm.trans hw
  case h_2 => rfl

theorem deliverWaiting_of_some {w : ReadWait} (hs : s.rows[tag].state = .responding) (h : s.rows[tag].wait = some w) :
    deliverWaiting tag s = deliverRow tag w.status s := by
  simp only [deliverWaiting, hs, h]

theorem waitsSound_deliverRow (h : s.waitsSound) (tag : Fin 8) (status : RespStatus) :
    (deliverRow tag status s).waitsSound := by
  intro u
  rw [deliverRow_row]
  split
  · exact ⟨nofun, nofun⟩
  · exact h u

theorem rows_ext {x y : Vector Row 8} (h : ∀ u : Fin 8, x[u] = y[u]) : x = y := Vector.ext fun i hi => h ⟨i, hi⟩

/-- What a list of rows answers is said by the rows that it leaves and by its responses. -/
theorem answeredOn_eq (s : State) (l : List (Fin 8)) {x : Vector Row 8} {q : List Response}
    (hrows : ∀ u : Fin 8, x[u] = if u ∈ l ∧ s.rows[u].wait.isSome = true then Row.empty else s.rows[u])
    (hready : q = s.rqp.ready ++ s.waitResponses l) :
    ({ s with rows := x, rqp := { s.rqp with ready := q } } : State) = s.answeredOn l := by
  have hx : x = (s.answeredOn l).rows := rows_ext fun u => (hrows u).trans (answeredOn_row s l u).symm
  rw [hx, hready]
  rfl

theorem answeredOn_nil (s : State) : s.answeredOn [] = s :=
  (answeredOn_eq s [] (fun _ => (if_neg fun hu => List.not_mem_nil hu.1).symm) (List.append_nil _).symm).symm

/-- A row that holds no response is passed over. -/
theorem answeredOn_cons_of_none {l : List (Fin 8)} (h : s.rows[tag].wait = none) :
    s.answeredOn l = s.answeredOn (tag :: l) := by
  refine answeredOn_eq s (tag :: l) (fun u => (answeredOn_row s l u).trans (if_congr ?rows rfl rfl)) ?ready
  case rows =>
    rw [List.mem_cons]
    refine ⟨fun ⟨hmem, hsome⟩ => ⟨.inr hmem, hsome⟩, fun ⟨hmem, hsome⟩ => ⟨hmem.resolve_left ?_, hsome⟩⟩
    rintro rfl
    rw [h] at hsome
    cases hsome
  case ready =>
    simp only [State.waitResponses, List.filterMap_cons, h, Option.map_none]

/-- A row that holds a response is answered, and then the others. -/
theorem answeredOn_cons_of_some {l : List (Fin 8)} (hl : tag ∉ l) {w : ReadWait} (h : s.rows[tag].wait = some w) :
    (deliverRow tag w.status s).answeredOn l = s.answeredOn (tag :: l) := by
  refine answeredOn_eq s (tag :: l) (fun u => (answeredOn_row _ l u).trans ?rows) ?ready
  case rows =>
    rw [deliverRow_row]
    by_cases hu : u = tag
    · subst hu
      rw [if_pos rfl, ite_self, if_pos ⟨List.mem_cons_self, by rw [h]; rfl⟩]
    · rw [if_neg hu]
      exact if_congr (and_congr_left' ⟨List.mem_cons_of_mem _, fun hmem => (List.mem_cons.1 hmem).resolve_left hu⟩)
        rfl rfl
  case ready =>
    have hothers : (deliverRow tag w.status s).waitResponses l = s.waitResponses l := by
      refine List.filterMap_congr fun n hn => ?_
      rw [deliverRow_row, if_neg (ne_of_mem_of_not_mem hn hl)]
    rw [hothers, deliverRow_ready, List.append_assoc]
    simp only [State.waitResponses, List.filterMap_cons, h, Option.map_some]
    rfl

theorem foldl_deliverWaiting {l : List (Fin 8)} (hl : l.Nodup) (h : s.waitsSound) :
    l.foldl (fun a n => deliverWaiting n a) s = s.answeredOn l := by
  induction l generalizing s with
  | nil => exact (answeredOn_nil s).symm
  | cons n l ih =>
    obtain ⟨hn, hl⟩ := List.nodup_cons.1 hl
    rw [List.foldl_cons]
    cases hwait : s.rows[n].wait with
    | none => rw [deliverWaiting_of_none hwait, ih hl h, answeredOn_cons_of_none hwait]
    | some w =>
      have hstate : s.rows[n].state = .responding := (h n).2 (by rw [hwait]; rfl)
      rw [deliverWaiting_of_some hstate hwait, ih hl (waitsSound_deliverRow h n _), answeredOn_cons_of_some hn hwait]

/-! ### The write at the LOSSLESS gate is decided FORWARD (R22, R41) -/

/-- The tag whose write waits at the LOSSLESS gate. -/
def Acceptance.heldTag : Acceptance → Option (Fin 8)
  | .waitLossless tag _ _ => some tag
  | .idle | .waitOrphan _ | .waitConflict _ => none

/-- The acceptance state once the write at the LOSSLESS gate, if any, is decided. -/
def Acceptance.ungated : Acceptance → Acceptance
  | .waitLossless _ _ _ => .idle
  | .idle => .idle
  | .waitOrphan r => .waitOrphan r
  | .waitConflict r => .waitConflict r

/-- The state with the write at the LOSSLESS gate, if any, QUEUED. -/
def State.heldForwarded (s : State) : State :=
  { s with rows := changeRow (fun r => { r with state := .queued }) s.rows s.rqp.acceptance.heldTag,
           fq := s.fq ++ s.rqp.acceptance.heldTag.toList,
           rqp := { s.rqp with acceptance := s.rqp.acceptance.ungated } }

theorem heldForwarded_row (s : State) (u : Fin 8) :
    s.heldForwarded.rows[u] =
      if s.rqp.acceptance.heldTag = some u then { s.rows[u] with state := .queued } else s.rows[u] :=
  changeRow_row ..

/-- A row with no hit information: nothing is owed, and the disposition to carry is FORWARDED (R13, R41). -/
structure Row.Stripped (r : Row) : Prop where
  owed        : r.owed = false
  carry       : r.carry = .forwarded
  holdRefused : r.holdRefused = false

/-- A decision with no outcome to hand on, for a row with no hit information, queues the tag. -/
theorem decideRequest_of_stripped (h : s.rows[tag].Stripped) :
    decideRequest tag .passThrough s = releasePort (queueForward tag s) := by
  obtain ⟨howed, hcarry, hrefused⟩ := h
  have hrow : modifyRow tag (fun q => { q with carry := .forwarded, holdRefused := false }) s = s :=
    modifyRow_of_eq (by rw [← hcarry, ← hrefused])
  have hrecord : writeRecord tag .forwarded false s = s := by
    rw [writeRecord, howed]
    rfl
  rw [decideRequest, handOn_passThrough]
  simp only [MatchOutcome.passThrough, carryOut, decideForward, requestStop_none, hrow, hrecord]

theorem heldForwarded_of_none (h : s.rqp.acceptance.heldTag = none) : s.heldForwarded = s := by
  have hport : s.rqp.acceptance.ungated = s.rqp.acceptance := by
    cases hacc : s.rqp.acceptance with
    | waitLossless tag since o => rw [hacc] at h; cases h
    | idle | waitOrphan r | waitConflict r => rfl
  rw [State.heldForwarded, h, hport]
  simp [changeRow]

theorem forwardHeld_eq (h : ∀ u : Fin 8, s.rows[u].Stripped) (hclaim : s.cq.claim = none) :
    forwardHeld s = s.heldForwarded := by
  cases hacc : s.rqp.acceptance with
  | waitLossless tag since o =>
    have hcq : { s.cq with claim := none } = s.cq := by rw [← hclaim]
    simp only [forwardHeld, hacc, decideRequest_of_stripped (h tag)]
    rw [State.heldForwarded, hacc, ← hcq]
    rfl
  | idle | waitOrphan r | waitConflict r =>
    rw [heldForwarded_of_none (by rw [hacc]; rfl)]
    simp only [forwardHeld, hacc]

/-! ### The path after RESTART's own work (R41, R99) -/

/-- A row after RESTART's own work (R41): RESPONDING rows are answered, the write at the LOSSLESS gate and the parked
transactions are QUEUED, and every row loses its hit information. -/
def Row.restarted (r : Row) : Row :=
  match r.state with
  | .responding => Row.empty
  | .deciding => { r.strip with state := .queued }
  | .parked => { r.strip with state := .queued, carry := .stopForward }
  | .empty | .queued | .issued | .orphan => r.strip

/-- The state with the blocks outside the path at the values of TABLE 3.4, and every row without its hit
information. -/
def State.stripped (s : State) : State := mapRows Row.strip (restartBlocks s)

/-- The state after RESTART's own work: the RESPONDING rows answered, the write at the LOSSLESS gate decided, the slots
released. -/
def State.restarted (s : State) : State := (s.stripped.answeredOn allTags).heldForwarded.slotsReleased

theorem mem_allTags : ∀ u : Fin 8, u ∈ allTags := by decide

theorem stripped_row (s : State) (u : Fin 8) : s.stripped.rows[u] = s.rows[u].strip := mapRows_getElem ..

theorem answered_row (s : State) (u : Fin 8) :
    (s.stripped.answeredOn allTags).rows[u] = if s.rows[u].wait.isSome = true then Row.empty else s.rows[u].strip := by
  rw [answeredOn_row, stripped_row]
  exact if_congr (and_iff_right (mem_allTags u)) rfl rfl

theorem answered_stripped (s : State) (u : Fin 8) : (s.stripped.answeredOn allTags).rows[u].Stripped := by
  rw [answered_row]
  split <;> exact ⟨rfl, rfl, rfl⟩

theorem restart_eq (h : s.pathSound) : restart s = (finish s.restarted, [0x00#8]) := by
  obtain ⟨-, -, -, hwaits, -⟩ := h
  have hstripped : s.stripped.waitsSound := fun u => by
    rw [stripped_row]
    exact hwaits u
  have hanswered : allTags.foldl (fun a n => deliverWaiting n a) s.stripped = s.stripped.answeredOn allTags :=
    foldl_deliverWaiting (by decide) hstripped
  have howed : ∀ u : Fin 8, (s.stripped.answeredOn allTags).heldForwarded.rows[u].owed = false := fun u => by
    rw [heldForwarded_row]
    split <;> exact (answered_stripped s u).owed
  rw [restart]
  change accept (finish (releaseBoth (makeHit false)
    (forwardHeld (allTags.foldl (fun a n => deliverWaiting n a) s.stripped)))) = _
  rw [hanswered, forwardHeld_eq (answered_stripped s) rfl, releaseBoth_of_no_debt (makeHit false) howed]
  rfl

/-- The row of a tag is DECIDING exactly when its write waits at the LOSSLESS gate (R31). -/
theorem heldTag_iff (h : s.portSound = true) (u : Fin 8) :
    s.rqp.acceptance.heldTag = some u ↔ s.rows[u].state = .deciding := by
  unfold State.portSound at h
  split at h
  case h_4 tag since o hacc =>
    rw [hacc]
    exact Option.some_inj.trans (eq_comm.trans (of_decide_eq_true h u).symm)
  case h_1 hacc =>
    rw [hacc]
    exact iff_of_false nofun (of_decide_eq_true h u)
  case h_2 r hacc =>
    rw [hacc]
    exact iff_of_false nofun ((of_decide_eq_true h).1 u)
  case h_3 r hacc =>
    rw [hacc]
    exact iff_of_false nofun ((of_decide_eq_true h).1 u)

theorem restarted_row (h : s.pathSound) (u : Fin 8) : s.restarted.rows[u] = s.rows[u].restarted := by
  obtain ⟨-, ⟨hparked, -⟩, hport, hwaits, -⟩ := h
  have hslots : s.restarted.rows[u] =
      if s.slotTag 0 = some u ∨ s.slotTag 1 = some u then
        (s.stripped.answeredOn allTags).heldForwarded.rows[u].stopForwarded
      else (s.stripped.answeredOn allTags).heldForwarded.rows[u] := slotsReleased_row ..
  have hheld : (s.stripped.answeredOn allTags).heldForwarded.rows[u] =
      if s.rqp.acceptance.heldTag = some u then
        { (s.stripped.answeredOn allTags).rows[u] with state := .queued }
      else (s.stripped.answeredOn allTags).rows[u] := heldForwarded_row ..
  simp only [hslots, hheld, answered_row, ← hparked u, heldTag_iff hport u, ← hwaits u]
  generalize s.rows[u] = r
  cases hs : r.state with
  | parked => simp [Row.restarted, Row.stopForwarded, Row.strip, hs]
  | empty | deciding | queued | issued | responding | orphan => simp [Row.restarted, hs]

end Sys2Proof.Machine
end

section
/-! The end of RESTART's step: a request in the CONFLICT wait is taken in OFF, and the arbiter grants (R39, R41, R56,
R96): obligation O23. -/

namespace Sys2Proof.Machine

variable {s : State} {r : Request}

/-! ### The end of a step outside STOPPING with no lossless wait -/

/-- No write waits at the LOSSLESS gate and no row is RESPONDING. -/
def State.waitless (s : State) : Prop :=
  s.rqp.acceptance.heldTag = none ∧ ∀ u : Fin 8, s.rows[u].state ≠ .responding

theorem endLosslessWaits_of_waitless (h : s.waitless) : endLosslessWaits s = s := by
  obtain ⟨hheld, hrows⟩ := h
  have hfold : ∀ l : List (Fin 8), l.foldl (fun a u => loseWaitingRow u a) s = s := by
    intro l
    induction l with
    | nil => rfl
    | cons u l ih => rw [List.foldl_cons, loseWaitingRow_of_not_responding (hrows u), ih]
  have hwrite : loseWaitingWrite s = s := by
    cases hacc : s.rqp.acceptance with
    | waitLossless tag since o => rw [hacc] at hheld; cases hheld
    | idle | waitOrphan r | waitConflict r => simp only [loseWaitingWrite, hacc]
  unfold endLosslessWaits
  split
  · rfl
  · rw [hfold, hwrite]

/-- The request that waits goes on, if its wait is over, and the arbiter grants. -/
theorem finish_of_waitless (h : s.waitless) (hs : s.sc.session ≠ .stopping) (hr : (resumeWait s).waitless)
    (hrs : (resumeWait s).sc.session ≠ .stopping) : finish s = arbitrate (resumeWait s) := by
  rw [finish, endLosslessWaits_of_waitless h, stopProgress_of_stands fun he => absurd he hs,
    endLosslessWaits_of_waitless hr, stopProgress_of_stands fun he => absurd he hrs,
    stopComplete_of_stands fun he => absurd he hrs]

/-! ### What RESTART's own work leaves, field by field (TABLE 3.4) -/

theorem Row.restarted_not_responding (q : Row) : q.restarted.state ≠ .responding := by
  cases hs : q.state <;> simp [Row.restarted, Row.strip, Row.empty, hs]

theorem ungated_heldTag (a : Acceptance) : a.ungated.heldTag = none := by cases a <;> rfl

theorem restarted_waitless (h : s.pathSound) : s.restarted.waitless := by
  refine ⟨ungated_heldTag s.rqp.acceptance, fun u => ?_⟩
  rw [restarted_row h]
  exact Row.restarted_not_responding _

theorem restarted_fq (s : State) :
    s.restarted.fq = s.fq ++ s.rqp.acceptance.heldTag.toList ++ s.parkedTags := slotsReleased_fq _

theorem restarted_hold (s : State) : s.restarted.hold = { s.hold with slots := Vector.replicate 2 none } :=
  slotsReleased_hold _

theorem responseData_eq (q : Row) (status : RespStatus) :
    responseData q status = if q.kind = .read ∧ status = .okay then q.readBuf else [] := by
  cases hk : q.kind <;> cases status <;> simp [responseData, hk]

theorem restarted_rqp (s : State) :
    s.restarted.rqp =
      { s.rqp with
        acceptance := s.rqp.acceptance.ungated,
        ready := s.rqp.ready ++ allTags.filterMap fun n => s.rows[n].wait.map fun w =>
          { status := w.status, tag := n,
            data := if s.rows[n].kind = .read ∧ w.status = .okay then s.rows[n].readBuf else [] } } := by
  have hready : s.stripped.waitResponses allTags =
      allTags.filterMap fun n => s.rows[n].wait.map fun w =>
        { status := w.status, tag := n,
          data := if s.rows[n].kind = .read ∧ w.status = .okay then s.rows[n].readBuf else [] } := by
    refine List.filterMap_congr fun n _ => ?_
    rw [stripped_row]
    exact congrArg (s.rows[n].wait.map ·) (funext fun w => by rw [responseData_eq]; rfl)
  rw [← hready]
  rfl

theorem restarted_counter (s : State) (n : Fin 4) :
    s.restarted.counters[n] =
      { s.counters[n] with
        value := s.counters[n].constant, pending := none, state := .idle, tickPending := false } :=
  mapVec_getElem ..

/-! ### A request in the CONFLICT wait is taken in OFF (R33, R96) -/

theorem restarted_not_covered (s : State) (a : Word) : ¬ s.restarted.covered a = true := by
  rw [covered_iff]
  rintro ⟨n, p, hp, -⟩
  rw [restarted_hold] at hp
  cases (Vector.getElem_replicate ..).symm.trans hp

/-- The state after RESTART's own work with the request in the CONFLICT wait taken. -/
def State.conflictTaken (s : State) (r : Request) : State :=
  s.restarted.unhanded.withQueued r.tag (takenRow s.restarted r)

theorem resumeWait_restarted_of_conflict (h : s.rqp.acceptance = .waitConflict r) :
    resumeWait s.restarted = s.conflictTaken r := by
  have hacc : s.restarted.rqp.acceptance = .waitConflict r := by
    rw [restarted_rqp, h]
    rfl
  have hgate : resumeWait s.restarted = conflictGate r s.restarted := by simp only [resumeWait, hacc]
  rw [hgate, conflictGate, if_neg (restarted_not_covered s _)]
  exact takeRequest_of_not_watching (s := s.restarted.unhanded) (show Session.off ≠ .watching by decide) rfl rfl

theorem resumeWait_restarted (hsound : s.pathSound) (h : ∀ r, s.rqp.acceptance ≠ .waitConflict r) :
    resumeWait s.restarted = s.restarted := by
  have hacc : s.restarted.rqp.acceptance = s.rqp.acceptance.ungated := by rw [restarted_rqp]
  refine resumeWait_of_stands ?_
  unfold State.waitStands
  rw [hacc]
  cases ha : s.rqp.acceptance with
  | idle | waitLossless tag since o => rfl
  | waitConflict r => exact absurd ha (h r)
  | waitOrphan r =>
    obtain ⟨-, horphan⟩ := waitOrphan_sound hsound ha
    refine decide_eq_true ?_
    rw [restarted_row hsound, Row.restarted, horphan]
    exact horphan

/-! ### The state that RESTART's step ends in, but for the grant -/

/-- A request in the CONFLICT wait finds its row EMPTY (R31). -/
theorem waitConflict_row (hsound : s.pathSound) (h : s.rqp.acceptance = .waitConflict r) :
    s.rows[r.tag].state = .empty := by
  obtain ⟨-, -, hport, -⟩ := hsound
  rw [State.portSound, h] at hport
  exact (of_decide_eq_true hport).2.2.1

/-- The request in the CONFLICT wait is taken, or nothing goes on. -/
theorem resumed_cases (hsound : s.pathSound) :
    (∃ r, s.rqp.acceptance = .waitConflict r ∧ resumeWait s.restarted = s.conflictTaken r) ∨
      (∀ r, s.rqp.acceptance ≠ .waitConflict r) ∧ resumeWait s.restarted = s.restarted := by
  by_cases hc : ∃ r, s.rqp.acceptance = .waitConflict r
  · obtain ⟨r, hr⟩ := hc
    exact .inl ⟨r, hr, resumeWait_restarted_of_conflict hr⟩
  · exact .inr ⟨not_exists.1 hc, resumeWait_restarted hsound (not_exists.1 hc)⟩

/-- A row that a request in the CONFLICT wait does not take is as RESTART's own work leaves it. -/
theorem resumed_row (hsound : s.pathSound) {u : Fin 8} (hu : ∀ r, s.rqp.acceptance = .waitConflict r → r.tag ≠ u) :
    (resumeWait s.restarted).rows[u] = s.rows[u].restarted := by
  rw [← restarted_row hsound]
  obtain ⟨r, hr, hres⟩ | ⟨-, hres⟩ := resumed_cases hsound
  · rw [hres]
    exact (row_set s.restarted.rows r.tag u _).trans (if_neg (hu r hr).symm)
  · rw [hres]

theorem resumed_row_of_conflict (h : s.rqp.acceptance = .waitConflict r) :
    (resumeWait s.restarted).rows[r.tag] = { takenRow s.restarted r with state := .queued } := by
  rw [resumeWait_restarted_of_conflict h]
  exact (row_set s.restarted.rows r.tag r.tag _).trans (if_pos rfl)

/-- Beside the path, the request that goes on changes nothing. -/
theorem resumed_eq (hsound : s.pathSound) :
    ∃ x f p, resumeWait s.restarted = { s.restarted with rows := x, fq := f, rqp := p } := by
  obtain ⟨r, -, hres⟩ | ⟨-, hres⟩ := resumed_cases hsound
  all_goals exact ⟨_, _, _, hres⟩

/-- Once the request in the CONFLICT wait is taken, nothing waits that OFF could end. -/
theorem resumed_waitless (hsound : s.pathSound) : (resumeWait s.restarted).waitless := by
  obtain ⟨r, hr, hres⟩ | ⟨-, hres⟩ := resumed_cases hsound
  · refine ⟨by rw [hres]; rfl, fun u => ?_⟩
    by_cases hu : r.tag = u
    · rw [← hu, resumed_row_of_conflict hr]
      exact RowState.noConfusion
    · rw [resumed_row hsound fun r' hr' he => hu (Acceptance.waitConflict.inj (hr.symm.trans hr') ▸ he)]
      exact Row.restarted_not_responding _
  · rw [hres]
    exact restarted_waitless hsound

theorem finish_restarted (hsound : s.pathSound) : finish s.restarted = arbitrate (resumeWait s.restarted) := by
  have hoff : (resumeWait s.restarted).sc.session ≠ .stopping := by
    obtain ⟨x, f, p, hu⟩ := resumed_eq hsound
    rw [hu]
    exact Session.noConfusion
  exact finish_of_waitless (restarted_waitless hsound) Session.noConfusion (resumed_waitless hsound) hoff

theorem exec_restart (s : State) : exec .restart s = .next (takeCommand 0 restart s) := rfl

end Sys2Proof.Machine

namespace Sys2Proof.Proofs.Sessions

open Sys2Proof.Machine

/-- Settles O23: RESTART's own work in closed form, and then the request that waited on a slot. -/
theorem restartResults : Obligations.RestartResults := by
  intro s q hf hsound hq
  have hstrip : ∀ n : Fin 8, q n = s.rows[n].strip := hq
  have hne : ∀ n : Fin 8, s.rows[n].state ≠ .empty → ∀ r, s.rqp.acceptance = .waitConflict r → r.tag ≠ n := by
    rintro n hn r hr rfl
    exact hn (waitConflict_row hsound hr)
  obtain ⟨x, f, p, hu⟩ := resumed_eq hsound
  refine ⟨resumeWait s.restarted, ?exec, fun n => ⟨fun hs => ?kept, fun hs => ?deciding, fun hs => ?parked,
    fun hs => ?responding, fun hs hc => ?empty⟩, fun r hr => ?conflict, ?fq, ?rqp, by rw [hu]; exact restarted_hold s,
    by rw [hu]; rfl, by rw [hu]; rfl, by rw [hu]; rfl, fun n => ?counters, by rw [hu]; rfl, by rw [hu]; rfl,
    fun c => ?classes, by rw [hu]; rfl, by rw [hu]; rfl⟩
  case exec => rw [exec_restart, takeCommand_of_receiving hf, restart_eq hsound, finish_restarted hsound]
  case kept =>
    simp only [List.mem_cons, List.not_mem_nil, or_false] at hs
    rw [resumed_row hsound (hne n (by rcases hs with hs | hs | hs <;> rw [hs] <;> exact RowState.noConfusion)), hstrip]
    rcases hs with hs | hs | hs <;> rw [Row.restarted, hs]
  case deciding =>
    rw [resumed_row hsound (hne n (by rw [hs]; exact RowState.noConfusion)), hstrip, Row.restarted, hs]
  case parked =>
    rw [resumed_row hsound (hne n (by rw [hs]; exact RowState.noConfusion)), hstrip, Row.restarted, hs]
  case responding =>
    rw [resumed_row hsound (hne n (by rw [hs]; exact RowState.noConfusion)), Row.restarted, hs]
  case empty =>
    rw [resumed_row hsound hc]
    obtain ⟨-, -, -, -, hempty⟩ := hsound
    rw [hempty n hs]
    rfl
  case conflict =>
    rw [resumed_row_of_conflict hr]
    cases hk : r.kind <;> simp only [takenRow, hk] <;> rfl
  case fq =>
    obtain ⟨r, hr, hres⟩ | ⟨hc, hres⟩ := resumed_cases hsound
    · rw [hres]
      change s.restarted.fq ++ [r.tag] = _
      rw [restarted_fq, hr]
      rfl
    · rw [hres, restarted_fq]
      cases ha : s.rqp.acceptance with
      | waitConflict r => exact absurd ha (hc r)
      | idle | waitOrphan r | waitLossless tag since o => exact (List.append_nil _).symm
  case rqp =>
    obtain ⟨r, hr, hres⟩ | ⟨hc, hres⟩ := resumed_cases hsound
    · rw [hres]
      change ({ s.restarted.rqp with acceptance := .idle } : RequestPort) = _
      rw [restarted_rqp, hr]
    · rw [hres, restarted_rqp]
      cases ha : s.rqp.acceptance with
      | waitConflict r => exact absurd ha (hc r)
      | idle | waitOrphan r | waitLossless tag since o => rfl
  case counters =>
    rw [hu]
    exact restarted_counter s n
  case classes =>
    rw [hu]
    exact Vector.getElem_replicate ..

end Sys2Proof.Proofs.Sessions
end

section
/-! The event counters, one event at a time (R73 to R76): what becomes of each counter, given the counters below it that
have expired, and that each stays in its range (R66). -/

namespace Sys2Proof.Machine

variable {c : Counter} {ev : CounterEvent} {n : Fin 4} {e : BitVec 4}

/-! ### One counter takes an event -/

/-- What a counter counts (R73, R74, R75). -/
theorem Counter.counts_iff :
    c.counts ev n e = true ↔
      c.state = .counting ∧
        ((c.mode = .event ∧ c.source = .entries ∧ ev.hits.getLsbD n.val = true) ∨
          (c.mode = .event ∧ ∃ k : Fin 4, c.source = .cascade k ∧ e.getLsbD k.val = true) ∨
          (c.mode = .time ∧ ev.ticked = true ∧ c.tickPending = true)) := by
  unfold Counter.counts
  cases c.mode with
  | event => cases c.source <;> simp
  | time => simp

theorem Counter.startedByHit_iff : c.startedByHit = true ↔ c.mode = .time ∧ c.start = .onHit ∧ c.state = .waitStart := by
  simp [Counter.startedByHit, and_assoc]

theorem Counter.take_of_expiring (hc : c.counts ev n e = true) (hv : c.value ≤ 1) :
    c.take ev n e = (c.expire, true) := by
  rw [Counter.take, if_pos hc, if_pos hv]

theorem Counter.take_of_counting (hc : c.counts ev n e = true) (hv : 2 ≤ c.value) :
    c.take ev n e = ({ c with value := c.value - 1 }, false) := by
  rw [Counter.take, if_pos hc, if_neg (by omega)]

theorem Counter.take_of_started (hs : c.startedByHit = true) (hh : ev.hits.getLsbD n.val = true) :
    c.take ev n e = ({ c with state := .counting }, false) := by
  have hc : ¬ c.counts ev n e = true := by
    rw [Counter.counts_iff, (Counter.startedByHit_iff.1 hs).2.2]
    exact fun h => CounterState.noConfusion h.1
  rw [Counter.take, if_neg hc, if_pos (by rw [hs, hh]; rfl)]

theorem Counter.take_of_idle (hc : ¬ c.counts ev n e = true)
    (hs : ¬ (c.startedByHit = true ∧ ev.hits.getLsbD n.val = true)) : c.take ev n e = (c, false) := by
  rw [Counter.take, if_neg hc, if_neg (by rwa [Bool.and_eq_true, and_comm])]

/-- A counter expires exactly when it counts at a value of 1 (R76). -/
theorem Counter.take_expires_iff : (c.take ev n e).2 = true ↔ c.counts ev n e = true ∧ c.value ≤ 1 := by
  unfold Counter.take
  split
  case isTrue hc =>
    split
    case isTrue hv => exact iff_of_true rfl ⟨hc, hv⟩
    case isFalse hv => exact iff_of_false Bool.false_ne_true fun h => hv h.2
  case isFalse hc =>
    split <;> exact iff_of_false Bool.false_ne_true fun h => hc h.1

/-! ### The counters take an event in ascending order (R75) -/

/-- Counter `n` takes the event, with the counters as they stand and those that have expired. -/
def takeInto (ev : CounterEvent) (acc : Vector Counter 4 × BitVec 4) (n : Fin 4) : Vector Counter 4 × BitVec 4 :=
  (acc.1.set n ((acc.1[n]).take ev n acc.2).1,
    if ((acc.1[n]).take ev n acc.2).2 then acc.2 ||| (1#4 <<< n.val) else acc.2)

theorem takeEvent_eq_foldl (ev : CounterEvent) (cs : Vector Counter 4) :
    takeEvent ev cs = allCounters.foldl (takeInto ev) (cs, 0#4) := rfl

theorem getLsbD_counterBit : ∀ m n : Fin 4, (1#4 <<< n.val).getLsbD m.val = decide (m = n) := by decide

theorem takeInto_same (ev : CounterEvent) (acc : Vector Counter 4 × BitVec 4) (n : Fin 4) :
    (takeInto ev acc n).1[n] = ((acc.1[n]).take ev n acc.2).1 := by
  simp [takeInto]

theorem takeInto_expires (ev : CounterEvent) (acc : Vector Counter 4 × BitVec 4) (n m : Fin 4) :
    (takeInto ev acc n).2.getLsbD m.val =
      (acc.2.getLsbD m.val || (((acc.1[n]).take ev n acc.2).2 && decide (m = n))) := by
  unfold takeInto
  cases ((acc.1[n]).take ev n acc.2).2 with
  | true => simp only [if_true, BitVec.getLsbD_or, getLsbD_counterBit, Bool.true_and]
  | false => simp

theorem takeInto_other (ev : CounterEvent) (acc : Vector Counter 4 × BitVec 4) {n m : Fin 4} (h : m ≠ n) :
    (takeInto ev acc n).1[m] = acc.1[m] := by
  have hval : n.val ≠ m.val := fun hv => h (Fin.ext hv).symm
  simp [takeInto, hval]

/-- Counters that are yet to take the event are as they were. -/
theorem foldl_takeInto_other (ev : CounterEvent) {m : Fin 4} {l : List (Fin 4)} (h : m ∉ l)
    (acc : Vector Counter 4 × BitVec 4) :
    (l.foldl (takeInto ev) acc).1[m] = acc.1[m] ∧ (l.foldl (takeInto ev) acc).2.getLsbD m.val = acc.2.getLsbD m.val := by
  induction l generalizing acc with
  | nil => exact ⟨rfl, rfl⟩
  | cons x l ih =>
    have hx : m ≠ x := List.ne_of_not_mem_cons h
    obtain ⟨hcounter, hbit⟩ := ih (List.not_mem_of_not_mem_cons h) (takeInto ev acc x)
    rw [takeInto_other ev acc hx] at hcounter
    rw [takeInto_expires, decide_eq_false hx, Bool.and_false, Bool.or_false] at hbit
    exact ⟨hcounter, hbit⟩

/-- Counter `n` takes the event given what the counters below it have made of it. -/
theorem takeEvent_at (ev : CounterEvent) (cs : Vector Counter 4) (n : Fin 4) :
    ∃ below : BitVec 4, (∀ k < n, below.getLsbD k.val = (takeEvent ev cs).2.getLsbD k.val) ∧
      (takeEvent ev cs).1[n] = (cs[n].take ev n below).1 ∧
      (takeEvent ev cs).2.getLsbD n.val = (cs[n].take ev n below).2 := by
  have hall : n ∈ allCounters := List.mem_of_getElem? (allCounters_getElem? n)
  have hascending : allCounters.Pairwise (· < ·) := by decide
  obtain ⟨before, after, hl⟩ := List.append_of_mem hall
  rw [hl, List.pairwise_append, List.pairwise_cons] at hascending
  obtain ⟨-, ⟨hafter, -⟩, hbefore⟩ := hascending
  have hn : n ∉ before := fun h => absurd (hbefore n h n List.mem_cons_self) (lt_irrefl n)
  have hn' : n ∉ after := fun h => absurd (hafter n h) (lt_irrefl n)
  rw [takeEvent_eq_foldl, hl, List.foldl_append, List.foldl_cons]
  obtain ⟨hcounter, hbit⟩ := foldl_takeInto_other ev hn (cs, 0#4)
  generalize before.foldl (takeInto ev) (cs, 0#4) = acc at hcounter hbit
  refine ⟨acc.2, fun k hk => ?_, ?_, ?_⟩
  · have hk' : k ∉ after := fun h => absurd (hafter k h) hk.asymm
    rw [(foldl_takeInto_other ev hk' _).2, takeInto_expires, decide_eq_false hk.ne, Bool.and_false, Bool.or_false]
  · rw [(foldl_takeInto_other ev hn' _).1, takeInto_same, hcounter]
  · rw [(foldl_takeInto_other ev hn' _).2, takeInto_expires, hcounter, hbit]
    simp

/-! ### Every counter stays in its range (R66) -/

theorem Counter.inRange.expire (h : c.inRange n) : c.expire.inRange n := by
  obtain ⟨hconstant, -, hpending, hsource, hstart⟩ := h
  have hloaded : 1 ≤ c.pending.getD c.constant ∧ c.pending.getD c.constant ≤ 65536 := by
    cases hp : c.pending with
    | none => exact hconstant
    | some p => simpa [hp] using hpending
  refine ⟨hloaded, hloaded, rfl, hsource, fun hw => ?_⟩
  unfold Counter.expire at hw
  dsimp only at hw
  split at hw
  · exact hstart hw
  · cases hw

/-- A counter above 1 may count down. -/
theorem Counter.inRange.countDown (h : c.inRange n) (hv : ¬ c.value ≤ 1) :
    Counter.inRange n { c with value := c.value - 1 } := by
  obtain ⟨hconstant, ⟨-, hle⟩, hrest⟩ := h
  exact ⟨hconstant, ⟨show 1 ≤ c.value - 1 by omega, show c.value - 1 ≤ 65536 by omega⟩, hrest⟩

theorem Counter.inRange.take (h : c.inRange n) (ev : CounterEvent) (e : BitVec 4) : (c.take ev n e).1.inRange n := by
  unfold Counter.take
  split
  · split
    case isTrue => exact h.expire
    case isFalse hv => exact h.countDown hv
  · split
    · obtain ⟨hconstant, hvalue, hpending, hsource, -⟩ := h
      exact ⟨hconstant, hvalue, hpending, hsource, CounterState.noConfusion⟩
    · exact h

theorem Counter.inRange.tick (h : c.inRange n) : c.tick.inRange n := by
  unfold Counter.tick
  split
  · split
    case isTrue => exact h
    case isFalse hv => exact h.countDown hv
  · exact h

theorem Counter.inRange.load (h : c.inRange n) : c.load.inRange n := by
  obtain ⟨hconstant, -, -, hsource, -⟩ := h
  refine ⟨hconstant, hconstant, rfl, hsource, fun hw => ?_⟩
  unfold Counter.load at hw
  dsimp only at hw
  split at hw
  case isTrue hstart => exact hstart
  case isFalse => cases hw

theorem Counter.inRange.rest (h : c.inRange n) : c.rest.inRange n := by
  obtain ⟨hconstant, -, -, hsource, -⟩ := h
  exact ⟨hconstant, hconstant, rfl, hsource, CounterState.noConfusion⟩

theorem Counter.inRange_initial (n : Fin 4) : Counter.initial.inRange n :=
  ⟨by decide, by decide, rfl, rfl, CounterState.noConfusion⟩

theorem constantOf_inRange (hi lo : Byte) : 1 ≤ constantOf hi lo ∧ constantOf hi lo ≤ 65536 := by
  have hlt := (hi ++ lo).isLt
  unfold constantOf
  split <;> omega

/-- The two sources of a PUT COUNTER: the entries, or a counter below (R67). -/
theorem source_cases {code k : Byte} {source : CounterSource}
    (h : (if code = 0#8 then some CounterSource.entries
      else if code = 1#8 then (if k.toNat < n.val then (fin4Of k.toNat).map CounterSource.cascade else none)
      else none) = some source) :
    (code = 0#8 ∧ source = .entries) ∨
      (code = 1#8 ∧ k.toNat < n.val ∧ ∃ m : Fin 4, m.val = k.toNat ∧ source = .cascade m) := by
  split at h
  case isTrue hcode => exact .inl ⟨hcode, (Option.some.inj h).symm⟩
  split at h
  case isTrue hcode =>
    split at h
    case isTrue hlt =>
      have hk : fin4Of k.toNat = some ⟨k.toNat, hlt.trans n.isLt⟩ := dif_pos _
      rw [hk] at h
      exact .inr ⟨hcode, hlt, _, rfl, (Option.some.inj h).symm⟩
    case isFalse => cases h
  case isFalse => cases h

/-- The fields of a PUT COUNTER that are not refused are in range (R67). -/
theorem inRange_of_counterOf {b : Bytes 11} (h : counterOf n b = some c) : c.inRange n := by
  simp only [counterOf, Option.bind_eq_some_iff, Option.some.injEq] at h
  obtain ⟨mode, -, source, hsource, start, -, reloading, -, alert, -, level, -, stop, -, record, -, rfl⟩ := h
  refine ⟨constantOf_inRange .., constantOf_inRange .., rfl, ?_, CounterState.noConfusion⟩
  obtain ⟨-, rfl⟩ | ⟨-, hlt, m, hm, rfl⟩ := source_cases hsource
  · rfl
  · exact decide_eq_true (hm.trans_lt hlt)

end Sys2Proof.Machine
end

section
/-! The counters, the class records and the pass-over count stay in their bounds (R66, R154, R156), whatever an event of
the block does: causes, records, releases, the Ring Writer, stop and level requests, counters and hits. -/

namespace Sys2Proof.Machine

/-! ### Class records (R156, R159) -/

theorem AlertClass.sound_empty : AlertClass.empty.sound := ⟨by decide, List.nodup_nil, nofun, nofun⟩

/-- A cause that coalesces keeps its kind and index. -/
theorem coalesced_keys (l : List Cause) (kind : CauseKind) (index : Nat) :
    (l.map fun x =>
        if x.kind = kind ∧ x.index = index then { x with count := min Config.repeatMax (x.count + 1) } else x).map
      (fun x => (x.kind, x.index)) = l.map fun x => (x.kind, x.index) := by
  rw [List.map_map]
  refine List.map_congr_left fun x _ => ?_
  dsimp only [Function.comp_apply]
  split <;> rfl

theorem AlertClass.sound.add {c : AlertClass} (h : c.sound) (kind : CauseKind) (index : Nat) :
    (c.add kind index).sound := by
  obtain ⟨hlength, hkeys, hcounts, hoverflow⟩ := h
  unfold AlertClass.add
  split
  case isTrue =>
    refine ⟨by rwa [List.length_map], by rwa [coalesced_keys], fun x hx => ?_, fun ho => ?_⟩
    · obtain ⟨y, hy, rfl⟩ := List.mem_map.1 hx
      obtain ⟨hone, hmax⟩ := hcounts y hy
      split
      · exact ⟨le_min (by decide) (by omega), min_le_left _ _⟩
      · exact ⟨hone, hmax⟩
    · exact fun hnil => hoverflow ho (List.map_eq_nil_iff.1 hnil)
  case isFalse hnew =>
    split
    case isTrue hroom =>
      refine ⟨by rw [List.length_append]; exact hroom, ?_, fun x hx => ?_, fun _ => by simp⟩
      · rw [List.map_append, List.nodup_append]
        refine ⟨hkeys, List.nodup_singleton _, fun a ha b hb hab => hnew ?_⟩
        obtain ⟨x, hx, rfl⟩ := List.mem_map.1 ha
        obtain ⟨rfl, rfl⟩ := Prod.mk.inj (hab.trans (List.mem_singleton.1 hb))
        exact List.any_eq_true.2 ⟨x, hx, by simp⟩
      · obtain hold | hlast := List.mem_append.1 hx
        · exact hcounts x hold
        · rw [List.mem_singleton.1 hlast]
          exact show 1 ≤ 1 ∧ 1 ≤ 255 by decide
    case isFalse hfull =>
      refine ⟨hlength, hkeys, hcounts, fun _ hnil => hfull ?_⟩
      rw [hnil]
      decide

/-! ### What events of the block move of the units -/

/-- The counters are in range, the class records sound, and the pass-over count is at most 16: the part of `unitsSound`
that events of the block move. -/
structure State.InBounds (s : State) : Prop where
  counters : s.countersInRange
  alerts   : s.alertsSound
  passOver : s.passOverFits

variable {s t : State}

theorem State.InBounds.congr (h : s.InBounds) (hcounters : t.counters = s.counters)
    (hclasses : t.au.classes = s.au.classes) (hpass : t.mpa.passOver = s.mpa.passOver) : t.InBounds := by
  obtain ⟨counters, alerts, passOver⟩ := h
  constructor
  all_goals
    simp only [State.countersInRange, State.alertsSound, State.passOverFits, hcounters, hclasses, hpass]
    assumption

theorem State.InBounds.setCounters (h : s.InBounds) {cs : Vector Counter 4} (hcs : ∀ n : Fin 4, cs[n].inRange n) :
    ({ s with counters := cs } : State).InBounds :=
  ⟨hcs, h.alerts, h.passOver⟩

/-- A change of every counter that keeps each in its range. -/
theorem State.InBounds.mapCounters (h : s.InBounds) {f : Counter → Counter}
    (hf : ∀ (c : Counter) (n : Fin 4), c.inRange n → (f c).inRange n) :
    ({ s with counters := mapVec f s.counters } : State).InBounds :=
  h.setCounters fun n => by
    have hn : (mapVec f s.counters)[n] = f s.counters[n] := mapVec_getElem f s.counters n.val n.isLt
    rw [hn]
    exact hf _ n (h.counters n)

theorem State.InBounds.withClass (h : s.InBounds) (c : Fin 4) {k : AlertClass} (hk : k.sound) :
    (s.withClass c k).InBounds := by
  refine ⟨h.counters, fun d => ?_, h.passOver⟩
  have hd : (s.withClass c k).au.classes[d] = if c.val = d.val then k else s.au.classes[d] :=
    Vector.getElem_set c.isLt d.isLt
  rw [hd]
  split
  · exact hk
  · exact h.alerts d

/-! ### Rows, responses, causes and records -/

theorem State.InBounds.modifyRow (h : s.InBounds) (tag : Fin 8) (f : Row → Row) : (modifyRow tag f s).InBounds :=
  h.congr rfl rfl rfl

theorem State.InBounds.respond (h : s.InBounds) (r : Response) : (respond r s).InBounds := h.congr rfl rfl rfl

theorem State.InBounds.queueForward (h : s.InBounds) (tag : Fin 8) : (queueForward tag s).InBounds :=
  h.congr rfl rfl rfl

theorem State.InBounds.deliverRow (h : s.InBounds) (tag : Fin 8) (status : RespStatus) :
    (deliverRow tag status s).InBounds :=
  h.congr rfl rfl rfl

theorem State.InBounds.clearDebt (h : s.InBounds) (tag : Fin 8) : (clearDebt tag s).InBounds := h.modifyRow tag _

theorem State.InBounds.countLost (h : s.InBounds) (n : Nat) : (countLost n s).InBounds := h.congr rfl rfl rfl

theorem State.InBounds.discardCounted (h : s.InBounds) : (discardCounted s).InBounds := h.congr rfl rfl rfl

theorem State.InBounds.raise (h : s.InBounds) (cls : Option (Fin 4)) (k : CauseKind) (i : Nat) :
    (raise cls k i s).InBounds := by
  cases cls with
  | none => exact h
  | some c => exact h.withClass c ((h.alerts c).add k i)

theorem State.InBounds.raiseMapped (h : s.InBounds) (k : CauseKind) (i : Nat) : (raiseMapped k i s).InBounds :=
  h.raise _ k i

theorem State.InBounds.dropRecord (h : s.InBounds) : (dropRecord s).InBounds := by
  unfold Machine.dropRecord
  dsimp only
  split
  · refine State.InBounds.raiseMapped ?_ _ _
    exact h.congr rfl rfl rfl
  · exact h.congr rfl rfl rfl

theorem State.InBounds.append (h : s.InBounds) (rs : List Record) : (append rs s).InBounds := by
  unfold Machine.append
  dsimp only
  split
  · refine State.InBounds.raiseMapped ?_ _ _
    exact h.congr rfl rfl rfl
  · exact h.congr rfl rfl rfl

theorem State.InBounds.admitBundle (h : s.InBounds) {own : Bool} {b : RecordBody} (ha : admitBundle own b s = some t) :
    t.InBounds := by
  unfold Machine.admitBundle at ha
  split at ha
  · cases ha
    exact (h.append _).congr rfl rfl rfl
  · cases ha

/-! ### Releases and the Ring Writer -/

/-- A way to deal with a release's record that keeps the bounds. -/
abbrev InBoundsMake (make : HitRecord → State → State) : Prop := ∀ x u, State.InBounds u → (make x u).InBounds

theorem inBoundsMake_countLost : InBoundsMake fun _ => countLost 1 := fun _ _ h => h.countLost 1

theorem State.InBounds.releaseSlot {make : HitRecord → State → State} (hm : InBoundsMake make) (h : s.InBounds)
    (n : Fin 2) (d : Disposition) (words : List Word) : (releaseSlot make n d words s).InBounds := by
  unfold Machine.releaseSlot
  split
  case h_1 => exact h
  case h_2 p _ =>
    have hanswer : State.InBounds (if d.answers then Machine.modifyRow p.tag (answerFields d words)
        (Machine.freeSlot n s) else Machine.freeSlot n s) := by
      split <;> exact h.congr rfl rfl rfl
    dsimp only
    generalize (if d.answers then Machine.modifyRow p.tag (answerFields d words) (Machine.freeSlot n s)
        else Machine.freeSlot n s) = u at hanswer ⊢
    have hrecord : State.InBounds
        (if u.rows[p.tag].owed && (decide (u.rows[p.tag].kind = .write) || d.answers) then
          Machine.clearDebt p.tag (make (buildHit u p.tag d false false) u) else u) := by
      split
      · exact (hm _ _ hanswer).clearDebt p.tag
      · exact hanswer
    split
    · exact hrecord.deliverRow p.tag _
    · exact (hrecord.modifyRow p.tag _).queueForward p.tag

theorem State.InBounds.releaseBoth {make : HitRecord → State → State} (hm : InBoundsMake make) (h : s.InBounds) :
    (releaseBoth make s).InBounds :=
  (h.releaseSlot hm 0 .stopForward []).releaseSlot hm 1 .stopForward []

theorem State.InBounds.freeze (h : s.InBounds) : (freeze s).InBounds := by
  have hfrozen := h.mapCounters (f := fun c => { c with tickPending := false }) fun _ _ => id
  exact hfrozen.congr rfl rfl rfl

theorem State.InBounds.enterStoppingWith {make : HitRecord → State → State} (hm : InBoundsMake make) (h : s.InBounds)
    (reason : StopReason) : (enterStoppingWith make reason s).InBounds := by
  unfold Machine.enterStoppingWith
  refine State.InBounds.releaseBoth hm (State.InBounds.freeze ?_)
  exact h.congr rfl rfl rfl

theorem State.InBounds.ringFinished (h : s.InBounds) : (ringFinished s).InBounds := by
  have hdone : (Machine.discardCounted { s with rw := { s.rw with ringDone := true } }).InBounds := h.congr rfl rfl rfl
  unfold Machine.ringFinished
  dsimp only
  split
  · exact (hdone.raiseMapped _ _).enterStoppingWith inBoundsMake_countLost _
  · exact hdone.raiseMapped _ _

theorem State.InBounds.formPlacement (h : s.InBounds) : (formPlacement s).InBounds := by
  unfold Machine.formPlacement
  split
  · exact h
  · split
    · exact h.congr rfl rfl rfl
    · exact h.congr rfl rfl rfl
    · exact h.ringFinished

theorem State.InBounds.takeHead (h : s.InBounds) : (takeHead s).InBounds := by
  unfold Machine.takeHead
  split
  · exact h.formPlacement
  · exact h

theorem State.InBounds.offer (h : s.InBounds) (own : Bool) (b : RecordBody) : (offer own b s).InBounds := by
  unfold Machine.offer
  split
  · exact h.countLost 1
  · split
    case h_1 ha => exact (h.admitBundle ha).takeHead
    case h_2 => exact h.dropRecord

theorem State.InBounds.makeHit (h : s.InBounds) (own : Bool) (x : HitRecord) : (makeHit own x s).InBounds := by
  unfold Machine.makeHit
  split
  · exact h.offer own _
  · exact h.countLost 1

theorem inBoundsMake_makeHit (own : Bool) : InBoundsMake (makeHit own) := fun x _ h => h.makeHit own x

/-! ### Requests to the Session Controller, counters, hits -/

theorem State.InBounds.stopRequest (h : s.InBounds) (reason : StopReason) : (stopRequest reason s).InBounds := by
  unfold Machine.stopRequest
  split
  · exact h.enterStoppingWith (inBoundsMake_makeHit false) reason
  · exact h

theorem State.InBounds.levelRequest (h : s.InBounds) (v : Fin 4) (c : LevelCause) (i : Nat) :
    (levelRequest v c i s).InBounds := by
  unfold Machine.levelRequest
  split
  · have hlevel : ({ s with sc := { s.sc with level := v } } : State).InBounds := h.congr rfl rfl rfl
    dsimp only
    split
    · exact hlevel.offer _ _
    · exact hlevel
  · exact h

theorem State.InBounds.expiryActions (h : s.InBounds) (n : Fin 4) : (expiryActions n s).InBounds := by
  have hraise := h.raise s.counters[n].alert .expiry n.val
  have hlevel : State.InBounds (match s.counters[n].nextLevel with
      | some v => Machine.levelRequest v .counter n.val (Machine.raise s.counters[n].alert .expiry n.val s)
      | none => Machine.raise s.counters[n].alert .expiry n.val s) := by
    split
    · exact hraise.levelRequest _ _ _
    · exact hraise
  unfold Machine.expiryActions
  dsimp only
  split
  · exact hlevel.offer _ _
  · exact hlevel

theorem State.InBounds.expiryStop (h : s.InBounds) (n : Fin 4) : (expiryStop n s).InBounds := by
  unfold Machine.expiryStop
  split
  · exact h.stopRequest _
  · exact h

/-- A fold of operations that keep the bounds keeps them. -/
theorem State.InBounds.foldl {α : Type} {f : State → α → State} (hf : ∀ u x, State.InBounds u → (f u x).InBounds)
    (l : List α) (h : s.InBounds) : (l.foldl f s).InBounds := by
  induction l generalizing s with
  | nil => exact h
  | cons x l ih => exact ih (hf s x h)

theorem State.InBounds.counterEvent (h : s.InBounds) (ev : CounterEvent) : (counterEvent ev s).InBounds := by
  have htaken : ({ s with counters := (takeEvent ev s.counters).1 } : State).InBounds := h.setCounters fun n => by
    obtain ⟨below, -, hn, -⟩ := takeEvent_at ev s.counters n
    rw [hn]
    exact (h.counters n).take ev below
  unfold Machine.counterEvent
  split
  · refine State.InBounds.foldl (fun _ n hu => hu.expiryStop n) _ ?_
    exact htaken.foldl (f := fun a n => Machine.expiryActions n a) (fun _ n hu => hu.expiryActions n) _
  · exact h

theorem State.InBounds.requestLevel (h : s.InBounds) (level : Option (Fin 16 × Fin 4)) :
    (requestLevel level s).InBounds := by
  unfold Machine.requestLevel
  split
  · exact h.levelRequest _ _ _
  · exact h

theorem State.InBounds.requestStop (h : s.InBounds) (stop : Option (Fin 16)) : (requestStop stop s).InBounds := by
  unfold Machine.requestStop
  split
  · exact h.stopRequest _
  · exact h

theorem State.InBounds.notify (h : s.InBounds) (tag : Fin 8) (notices : BitVec 4) : (notify tag notices s).InBounds := by
  unfold Machine.notify
  exact (h.modifyRow tag _).counterEvent _

theorem State.InBounds.raiseHits (h : s.InBounds) (alerts : List (Fin 16 × Fin 4)) : (raiseHits alerts s).InBounds := by
  unfold Machine.raiseHits
  exact h.foldl (f := fun a x => Machine.raise (some x.2) .entryHit x.1.val a) (fun _ _ hu => hu.raise _ _ _) alerts

theorem State.InBounds.countHits (h : s.InBounds) (set : BitVec 16) : (countHits set s).InBounds := h.congr rfl rfl rfl

theorem State.InBounds.handOn (h : s.InBounds) (tag : Fin 8) (o : MatchOutcome) : (handOn tag o s).InBounds :=
  (((h.countHits _).raiseHits _).requestLevel _).notify tag _

end Sys2Proof.Machine
end

section
/-! Decisions, gates, the end of a step, FAULT, responses, the events that fall due and the tick keep the bounds of the
counters, the class records and the pass-over count. -/

namespace Sys2Proof.Machine

variable {s t : State}

/-! ### The decision (R34, R80 to R86) -/

theorem State.InBounds.writeRecord (h : s.InBounds) (tag : Fin 8) (d : Disposition) (refused : Bool) :
    (writeRecord tag d refused s).InBounds := by
  unfold Machine.writeRecord
  split
  · exact (h.makeHit true _).clearDebt tag
  · exact h

theorem State.InBounds.decideForward (h : s.InBounds) (tag : Fin 8) (d : Disposition) (refused : Bool) :
    (decideForward tag d refused s).InBounds :=
  ((h.modifyRow tag _).writeRecord tag d refused).queueForward tag

theorem State.InBounds.decideBlock (h : s.InBounds) (tag : Fin 8) (status : RespStatus) :
    (decideBlock tag status s).InBounds := by
  unfold Machine.decideBlock
  dsimp only
  refine State.InBounds.deliverRow ?_ tag status
  split
  · exact ((h.modifyRow tag _).makeHit true _).clearDebt tag
  · exact h.modifyRow tag _

theorem State.InBounds.decideHold (h : s.InBounds) (tag : Fin 8) (entry : Fin 16) : (decideHold tag entry s).InBounds := by
  unfold Machine.decideHold
  split
  · split
    · unfold park
      refine State.InBounds.raise (State.InBounds.modifyRow ?_ tag _) _ _ _
      exact h.congr rfl rfl rfl
    · exact (h.decideForward tag _ _).raiseMapped _ _
  · exact h.decideForward tag _ _

theorem State.InBounds.carryOut (h : s.InBounds) (tag : Fin 8) (v : Verdict) : (carryOut tag v s).InBounds := by
  cases v with
  | forward => exact h.decideForward tag _ _
  | block status => exact h.decideBlock tag status
  | hold entry => exact h.decideHold tag entry

theorem State.InBounds.decideRequest (h : s.InBounds) (tag : Fin 8) (o : MatchOutcome) :
    (decideRequest tag o s).InBounds :=
  (((h.handOn tag o).carryOut tag o.verdict).requestStop o.stop).congr rfl rfl rfl

/-! ### The gates (R31 to R33, R95, R126) -/

theorem State.InBounds.passGate (h : s.InBounds) (tag : Fin 8) (o : MatchOutcome) : (passGate tag o s).InBounds := by
  unfold Machine.passGate
  refine State.InBounds.decideRequest ?_ tag o
  exact h.congr rfl rfl rfl

theorem State.InBounds.losslessGate (h : s.InBounds) (tag : Fin 8) (o : MatchOutcome) :
    (losslessGate tag o s).InBounds := by
  unfold Machine.losslessGate
  split
  · split
    · exact h.passGate tag o
    · exact h.congr rfl rfl rfl
  · exact h.decideRequest tag o

theorem State.InBounds.takeRequest (h : s.InBounds) (r : Request) : (takeRequest r s).InBounds := by
  unfold Machine.takeRequest
  split <;> exact (h.modifyRow r.tag _).losslessGate r.tag _

theorem State.InBounds.conflictGate (h : s.InBounds) (r : Request) : (conflictGate r s).InBounds := by
  unfold Machine.conflictGate
  split
  · exact h.congr rfl rfl rfl
  · refine State.InBounds.takeRequest ?_ r
    exact h.congr rfl rfl rfl

theorem State.InBounds.readRequest (h : s.InBounds) (r : Request) : (readRequest r s).InBounds := by
  unfold Machine.readRequest
  split
  · exact h.raiseMapped _ _
  split
  · exact (h.respond _).raiseMapped _ _
  split
  · exact h.congr rfl rfl rfl
  · exact h.conflictGate r

theorem State.InBounds.readOldest (h : s.InBounds) : (readOldest s).InBounds := by
  unfold Machine.readOldest
  split
  · refine State.InBounds.readRequest ?_ _
    exact h.congr rfl rfl rfl
  · exact h

/-! ### The end of a step (assumption 7) -/

theorem State.InBounds.loseWaitingRow (h : s.InBounds) (tag : Fin 8) : (loseWaitingRow tag s).InBounds := by
  unfold Machine.loseWaitingRow
  split
  · exact (h.countLost 1).deliverRow tag _
  · exact h

theorem State.InBounds.loseWaitingWrite (h : s.InBounds) : (loseWaitingWrite s).InBounds := by
  unfold Machine.loseWaitingWrite
  split
  · refine State.InBounds.decideRequest (State.InBounds.clearDebt ?_ _) _ _
    split
    · exact h.countLost 1
    · exact h
  all_goals exact h

theorem State.InBounds.endLosslessWaits (h : s.InBounds) : (endLosslessWaits s).InBounds := by
  unfold Machine.endLosslessWaits
  split
  · exact h
  · exact State.InBounds.loseWaitingWrite (h.foldl (fun _ tag hu => hu.loseWaitingRow tag) allTags)

theorem State.InBounds.offerStop (h : s.InBounds) : (offerStop s).InBounds := by
  unfold Machine.offerStop
  split
  · exact h.congr rfl rfl rfl
  · split
    case h_1 ha =>
      refine State.InBounds.takeHead ?_
      exact (h.admitBundle ha).congr rfl rfl rfl
    case h_2 => exact h.congr rfl rfl rfl

theorem State.InBounds.stopProgress (h : s.InBounds) : (stopProgress s).InBounds := by
  unfold Machine.stopProgress
  split
  · split
    · split
      · exact h
      · exact h.offerStop
    · split
      · exact h.offerStop
      · exact h
    · exact h
  · exact h

theorem State.InBounds.resumeWait (h : s.InBounds) : (resumeWait s).InBounds := by
  unfold Machine.resumeWait
  split
  · split
    · exact h
    · exact h.conflictGate _
  · exact h.conflictGate _
  all_goals exact h

theorem State.InBounds.stopComplete (h : s.InBounds) : (stopComplete s).InBounds := by
  unfold Machine.stopComplete
  split
  · refine State.InBounds.raiseMapped ?_ _ _
    exact h.congr rfl rfl rfl
  · exact h

theorem State.InBounds.grantForward (h : s.InBounds) (tag : Fin 8) (rest : List (Fin 8)) {n : Nat}
    (hn : n ≤ Config.passOverMax) : (grantForward tag rest n s).InBounds :=
  ⟨h.counters, h.alerts, hn⟩

/-- A grant to the Ring Writer begins the pass-over count anew (R154). -/
theorem State.InBounds.grantRing (h : s.InBounds) (b : Burst) : (grantRing b s).InBounds :=
  ⟨h.counters, h.alerts, Nat.zero_le _⟩

/-- The Forward Queue passes the Ring Writer over while the count is below 16 alone (R154). -/
theorem State.InBounds.arbitrate (h : s.InBounds) : (arbitrate s).InBounds := by
  unfold Machine.arbitrate
  split
  · exact h
  split
  · exact h
  · exact h.grantRing _
  · exact h.grantForward _ _ h.passOver
  · split
    case isTrue => exact h.grantRing _
    case isFalse hpass =>
      refine h.grantForward _ _ ?_
      simp only [Bool.or_eq_true, decide_eq_true_eq, not_or] at hpass
      omega

theorem State.InBounds.finish (h : s.InBounds) : (finish s).InBounds :=
  h.endLosslessWaits.stopProgress.resumeWait.endLosslessWaits.stopProgress.stopComplete.arbitrate

/-! ### FAULT (R53) -/

theorem State.InBounds.abandonStop (h : s.InBounds) : (abandonStop s).InBounds := by
  unfold Machine.abandonStop
  split
  · refine State.InBounds.countLost ?_ 1
    exact h.congr rfl rfl rfl
  · exact h

theorem State.InBounds.enterFault (h : s.InBounds) : (enterFault s).InBounds := by
  unfold Machine.enterFault
  split
  · have hsession : ({ s with sc := { s.sc with
        session := .fault, reason := if s.sc.session = .watching then .fault else s.sc.reason } } : State).InBounds :=
      h.congr rfl rfl rfl
    have hleft := State.InBounds.releaseBoth inBoundsMake_countLost hsession.freeze
    exact hleft.discardCounted.endLosslessWaits.abandonStop.raise _ _ _
  · exact h

/-! ### Responses of memory (R37, R142 to R144, R151) -/

theorem State.InBounds.lateMatch (h : s.InBounds) (tag : Fin 8) : (lateMatch tag s).InBounds := by
  unfold Machine.lateMatch
  exact (((((h.modifyRow tag _).countHits _).raiseHits _).requestLevel _).notify tag _).requestStop _

theorem State.InBounds.settleRead (h : s.InBounds) (tag : Fin 8) (status : RespStatus) :
    (settleRead tag status s).InBounds := by
  unfold Machine.settleRead
  dsimp only
  split
  · split
    · split
      case h_1 ha => exact ((h.admitBundle ha).takeHead.clearDebt tag).deliverRow tag status
      case h_2 =>
        split
        · exact h.modifyRow tag _
        · exact (h.dropRecord.clearDebt tag).deliverRow tag status
    · exact ((h.countLost 1).clearDebt tag).deliverRow tag status
  · exact h.deliverRow tag status

theorem State.InBounds.readResponse (h : s.InBounds) (tag : Fin 8) (status : RespStatus) (words : List Word) :
    (readResponse tag status words s).InBounds := by
  unfold Machine.readResponse
  dsimp only
  split
  · exact ((h.modifyRow tag _).lateMatch tag).settleRead tag _
  · exact (h.modifyRow tag _).settleRead tag _

theorem State.InBounds.forwardedResponse (h : s.InBounds) (tag : Fin 8) (status : RespStatus) (words : List Word) :
    (forwardedResponse tag status words s).InBounds := by
  unfold Machine.forwardedResponse
  split
  · split
    · exact (h.deliverRow tag status).finish
    · exact (h.readResponse tag status words).finish
  · exact (h.modifyRow tag _).finish
  all_goals exact h

theorem State.InBounds.compareWatermark (h : s.InBounds) : (compareWatermark s).InBounds := by
  unfold Machine.compareWatermark
  split
  · refine State.InBounds.raiseMapped ?_ _ _
    exact h.congr rfl rfl rfl
  · exact h

theorem State.InBounds.publish (h : s.InBounds) (p : Placement) : (publish p s).InBounds := by
  unfold Machine.publish
  refine State.InBounds.compareWatermark ?_
  exact h.congr rfl rfl rfl

theorem State.InBounds.burstDone (h : s.InBounds) (b : Burst) : (burstDone b s).InBounds := by
  unfold Machine.burstDone
  dsimp only
  split
  · split
    · refine State.InBounds.takeHead (State.InBounds.publish ?_ _)
      exact h.congr rfl rfl rfl
    · exact h.congr rfl rfl rfl
  · exact h.congr rfl rfl rfl

theorem State.InBounds.ringResponse (h : s.InBounds) (status : RespStatus) : (ringResponse status s).InBounds := by
  unfold Machine.ringResponse
  split
  · exact h
  · split
    · exact (h.burstDone _).finish
    · refine State.InBounds.finish (State.InBounds.enterFault ?_)
      exact h.congr rfl rfl rfl
    all_goals
      refine State.InBounds.finish (State.InBounds.takeHead ?_)
      exact h.congr rfl rfl rfl

/-! ### Events that fall due -/

theorem State.InBounds.gatePass (h : s.InBounds) : (gatePass s).InBounds := by
  unfold Machine.gatePass
  split
  · split
    · refine State.InBounds.finish (State.InBounds.passGate ?_ _ _)
      exact h.congr rfl rfl rfl
    · exact h
  all_goals exact h

theorem State.InBounds.placeWaiting (h : s.InBounds) (tag : Fin 8) : (placeWaiting tag s).InBounds := by
  unfold Machine.placeWaiting
  split
  · split
    · split
      case h_1 ha => exact (((h.admitBundle ha).takeHead.clearDebt tag).deliverRow tag _).finish
      case h_2 => exact h
    · exact h
  · exact h

theorem State.InBounds.reofferStop (h : s.InBounds) : (reofferStop s).InBounds := by
  unfold Machine.reofferStop
  split
  · exact h.offerStop.finish
  · exact h

theorem State.InBounds.stallDrop (h : s.InBounds) (tag : Fin 8) : (stallDrop tag s).InBounds := by
  have hseen : ({ Machine.dropRecord s with
      rbl := { (Machine.dropRecord s).rbl with losslessSeen := true } } : State).InBounds := h.dropRecord.congr rfl rfl rfl
  exact (hseen.raiseMapped _ _).clearDebt tag

theorem State.InBounds.stallTimeout (h : s.InBounds) (tag : Fin 8) : (stallTimeout tag s).InBounds := by
  have hwrite : (stallWrite tag s).InBounds := by
    unfold stallWrite
    split
    · split
      · exact ((h.stallDrop tag).decideRequest tag _).finish
      · exact h
    all_goals exact h
  unfold Machine.stallTimeout stallRead
  split
  · split
    · split
      · exact ((h.stallDrop tag).deliverRow tag _).finish
      · exact h
    · exact h
  all_goals exact hwrite

theorem State.InBounds.expireCounters (h : s.InBounds) : (expireCounters s).InBounds := by
  unfold Machine.expireCounters
  split
  · exact (h.counterEvent _).finish
  · exact h

theorem State.InBounds.holdExpire (h : s.InBounds) (n : Fin 2) : (holdExpire n s).InBounds := by
  unfold Machine.holdExpire
  split
  · exact ((h.releaseSlot (inBoundsMake_makeHit false) n _ _).raise _ _ _).finish
  · exact h

theorem State.InBounds.autonomousGap (h : s.InBounds) : (autonomousGap s).InBounds := by
  unfold Machine.autonomousGap
  split
  · split
    · have hplaced := h.append [gapRecord Config.autoGapCount]
      generalize Machine.append [gapRecord Config.autoGapCount] s = u at hplaced ⊢
      refine State.InBounds.finish (State.InBounds.takeHead ?_)
      exact hplaced.congr rfl rfl rfl
    · exact h.congr rfl rfl rfl
  · exact h

/-! ### The tick (R63) -/

theorem State.InBounds.settle (h : s.InBounds) : (settle s).InBounds := by
  have hplaced := h.gatePass.foldl (f := fun u tag => Machine.placeWaiting tag u) (fun _ tag hu => hu.placeWaiting tag)
    allTags
  have hheld := (hplaced.reofferStop.autonomousGap.expireCounters.holdExpire 0).holdExpire 1
  unfold Machine.settle
  exact hheld.foldl (f := fun u tag => Machine.stallTimeout tag u) (fun _ tag hu => hu.stallTimeout tag) allTags

theorem State.InBounds.countTick (h : s.InBounds) : (countTick s).InBounds := by
  unfold Machine.countTick
  split
  · exact (h.mapCounters fun _ _ hc => hc.tick).congr rfl rfl rfl
  · exact h.congr rfl rfl rfl

theorem State.InBounds.tick (h : s.InBounds) : (tick s).InBounds := by
  unfold Machine.tick
  split
  · exact h
  · exact h.settle.countTick

end Sys2Proof.Machine
end

section
/-! Every command, and every cycle of CLK, keeps the counters, the class records and the pass-over count in their bounds,
the phase below the divisor, and the frame in step with CS (obligation O57). -/

namespace Sys2Proof.Machine

variable {s t : State}

/-! ### Resets and lines (R42, R172) -/

theorem State.InBounds.pathReset (h : s.InBounds) : (pathReset s).InBounds := by
  unfold Machine.pathReset
  split
  · exact h
  · refine State.InBounds.finish (State.InBounds.raiseMapped ?_ _ _)
    exact h.congr rfl rfl rfl

theorem State.InBounds.endPathReset (h : s.InBounds) : (endPathReset s).InBounds := by
  unfold Machine.endPathReset
  split
  · refine State.InBounds.finish (State.InBounds.readOldest ?_)
    exact h.congr rfl rfl rfl
  · exact h

theorem State.InBounds.releaseReset (h : s.InBounds) : (releaseReset s).InBounds := by
  unfold Machine.releaseReset
  split
  · refine State.InBounds.finish (State.InBounds.readOldest ?_)
    exact h.congr rfl rfl rfl
  · exact h

theorem inBounds_resetPart (s : State) : (resetPart s).InBounds := by
  refine ⟨fun n => ?_, fun c => ?_, Nat.zero_le _⟩
  · have hn : (resetPart s).counters[n] = Counter.initial := Vector.getElem_replicate ..
    rw [hn]
    exact Counter.inRange_initial n
  · have hc : (resetPart s).au.classes[c] = AlertClass.empty := Vector.getElem_replicate ..
    rw [hc]
    exact AlertClass.sound_empty

theorem State.InBounds.assertCs (h : s.InBounds) : (assertCs s).InBounds := by
  unfold Machine.assertCs
  dsimp only
  repeat' split
  all_goals exact h.congr rfl rfl rfl

theorem State.InBounds.deassertCs (h : s.InBounds) (f : FrameState) : (deassertCs f s).InBounds := by
  unfold Machine.deassertCs
  split <;> exact h.congr rfl rfl rfl

/-! ### Commands of the Management Port -/

theorem State.InBounds.takeCommand {n : Nat} {act : State → State × List Byte} (h : s.InBounds)
    (hact : (act s).1.InBounds) : (takeCommand n act s).InBounds := by
  unfold Machine.takeCommand
  split
  · exact hact.congr rfl rfl rfl
  · exact h

theorem State.InBounds.armSession (h : s.InBounds) : (armSession s).InBounds :=
  (h.mapCounters fun _ _ hc => hc.load).congr rfl rfl rfl

theorem State.InBounds.arm (h : s.InBounds) : (arm s).1.InBounds := by
  unfold Machine.arm
  split
  · split
    · exact h.armSession.takeHead.arbitrate
    · exact h
  · exact h

theorem State.InBounds.moveRead (h : s.InBounds) (v : Word) : (moveRead v s).InBounds := by
  have hread : ∀ x : RingWriter, ({ s with rw := x } : State).InBounds := fun x => h.congr rfl rfl rfl
  have hform : ∀ u : State, u.InBounds →
      (if u.rw.writer = .waitSpace then Machine.formPlacement u else u).InBounds := fun u hu => by
    split
    · exact hu.formPlacement
    · exact hu
  unfold Machine.moveRead
  dsimp only
  refine hform _ ?_
  split <;> exact hread _

theorem State.InBounds.readptr (h : s.InBounds) (v : Word) : (readptr v s).1.InBounds := by
  unfold Machine.readptr
  split
  · exact h
  split
  · split
    · exact (h.moveRead v).arbitrate
    · exact h
  · exact h

theorem State.InBounds.releaseChecked (h : s.InBounds) (n : Fin 2) (ticket : Byte) (d : Disposition) (count : Nat)
    (words : List Word) : (releaseChecked n ticket d count words s).1.InBounds := by
  unfold Machine.releaseChecked
  split
  · exact h
  split
  · exact h
  split
  · exact h
  split
  · exact h
  · exact (h.releaseSlot (inBoundsMake_makeHit false) n d words).finish

theorem State.InBounds.release (h : s.InBounds) (slot ticket disposition count : Byte) (words : List Word) :
    (release slot ticket disposition count words s).1.InBounds := by
  unfold Machine.release
  split
  · exact h
  split
  · exact h.releaseChecked _ _ _ _ _
  · exact h

/-- ACK takes the oldest cause out of its class, and the overflow flag is cleared (R162). -/
theorem State.InBounds.ack (h : s.InBounds) : (ack s).1.InBounds := by
  unfold Machine.ack
  split
  case h_1 => exact h
  case h_2 c _ =>
    split
    case h_1 => exact h
    case h_2 x rest hcauses =>
      obtain ⟨hlength, hkeys, hcounts, -⟩ := h.alerts c
      have hc : s.au.classes[c].causes = x :: rest := hcauses
      rw [hc] at hlength hkeys hcounts
      refine h.withClass c ⟨Nat.le_of_succ_le hlength, ?_, ?_, nofun⟩
      · exact (List.nodup_cons.1 hkeys).2
      · exact fun y hy => hcounts y (List.mem_cons_of_mem _ hy)

theorem State.InBounds.done (h : s.InBounds) : (done s).1.InBounds := by
  unfold Machine.done
  split
  case h_1 => exact h
  case h_2 c _ => exact h.withClass c (h.alerts c)

/-! ### Session commands -/

theorem State.InBounds.restartBlocks (h : s.InBounds) : (restartBlocks s).InBounds := by
  refine ⟨(h.mapCounters fun _ _ hc => hc.rest).counters, fun c => ?_, Nat.zero_le _⟩
  have hc : (Machine.restartBlocks s).au.classes[c] = AlertClass.empty := Vector.getElem_replicate ..
  rw [hc]
  exact AlertClass.sound_empty

theorem State.InBounds.deliverWaiting (h : s.InBounds) (tag : Fin 8) : (deliverWaiting tag s).InBounds := by
  unfold Machine.deliverWaiting
  split
  · exact h.deliverRow tag _
  · exact h

theorem State.InBounds.forwardHeld (h : s.InBounds) : (forwardHeld s).InBounds := by
  unfold Machine.forwardHeld
  split
  · exact h.decideRequest _ _
  all_goals exact h

theorem State.InBounds.restart (h : s.InBounds) : (restart s).1.InBounds := by
  have hstripped : (mapRows Row.strip (Machine.restartBlocks s)).InBounds := h.restartBlocks.congr rfl rfl rfl
  unfold Machine.restart accept
  dsimp only
  generalize mapRows Row.strip (Machine.restartBlocks s) = u at hstripped ⊢
  have hdelivered := hstripped.foldl (f := fun v tag => Machine.deliverWaiting tag v)
    (fun _ tag hv => hv.deliverWaiting tag) allTags
  exact (hdelivered.forwardHeld.releaseBoth (inBoundsMake_makeHit false)).finish

theorem State.InBounds.stop (h : s.InBounds) : (stop s).1.InBounds := by
  unfold Machine.stop
  split
  · exact (h.stopRequest _).finish
  · exact h

theorem State.InBounds.clear (h : s.InBounds) : (clear s).1.InBounds := by
  unfold Machine.clear
  split
  · exact h.congr rfl rfl rfl
  · exact h

theorem State.InBounds.level (h : s.InBounds) (v : Byte) : (level v s).1.InBounds := by
  unfold Machine.level
  split
  · split
    · exact (h.levelRequest _ _ _).finish
    · exact h
  · exact h

theorem State.InBounds.mark (h : s.InBounds) (v : Word) : (mark v s).1.InBounds := by
  unfold Machine.mark
  split
  · split
    case h_1 ha => exact (h.admitBundle ha).takeHead.finish
    case h_2 => exact h
  · exact h

/-! ### PUT, ENABLE and DISABLE -/

theorem State.InBounds.putSession (h : s.InBounds) (b : Bytes 4) : (putSession b s).1.InBounds := by
  unfold Machine.putSession
  repeat' split
  all_goals exact h.congr rfl rfl rfl

theorem State.InBounds.putRing (h : s.InBounds) (b : Bytes 13) : (putRing b s).1.InBounds := by
  unfold Machine.putRing
  repeat' split
  all_goals exact h.congr rfl rfl rfl

theorem State.InBounds.expireBoth (h : s.InBounds) : (expireBoth s).InBounds := by
  have hchosen : ({ s with choices := s.choices + 1 } : State).InBounds := h.congr rfl rfl rfl
  unfold Machine.expireBoth
  split
  · dsimp only
    split
    · exact (hchosen.holdExpire 1).holdExpire 0
    · exact (hchosen.holdExpire 0).holdExpire 1
  · exact (h.holdExpire 0).holdExpire 1

theorem State.InBounds.putHold (h : s.InBounds) (b : Bytes 5) : (putHold b s).1.InBounds := by
  unfold Machine.putHold
  split
  · refine State.InBounds.expireBoth ?_
    exact h.congr rfl rfl rfl
  · exact h

theorem State.InBounds.putTimebase (h : s.InBounds) (b : Bytes 1) : (putTimebase b s).1.InBounds := by
  unfold Machine.putTimebase
  repeat' split
  all_goals exact h.congr rfl rfl rfl

theorem State.InBounds.putAlertmap (h : s.InBounds) (b : Bytes 9) : (putAlertmap b s).1.InBounds := by
  unfold Machine.putAlertmap
  split <;> exact h.congr rfl rfl rfl

theorem State.InBounds.putEntry (h : s.InBounds) (n : Fin 16) (b : Bytes 28) : (putEntry n b s).1.InBounds := by
  unfold Machine.putEntry
  repeat' split
  all_goals exact h.congr rfl rfl rfl

theorem State.InBounds.setCounter (h : s.InBounds) (n : Fin 4) {c : Counter} (hc : c.inRange n) :
    ({ s with counters := s.counters.set n c } : State).InBounds :=
  h.setCounters fun m => by
    have hm : (s.counters.set n c)[m] = if n.val = m.val then c else s.counters[m] := Vector.getElem_set n.isLt m.isLt
    rw [hm]
    split
    case isTrue heq =>
      obtain rfl : n = m := Fin.ext heq
      exact hc
    case isFalse => exact h.counters m

theorem State.InBounds.putCounter (h : s.InBounds) (n : Fin 4) (b : Bytes 11) : (putCounter n b s).1.InBounds := by
  unfold Machine.putCounter
  split
  case h_1 => exact h
  case h_2 c hb =>
    have hc := inRange_of_counterOf hb
    split
    · split
      · obtain ⟨hconstant, hvalue, -, hrest⟩ := h.counters n
        obtain ⟨hpending, -⟩ := hc
        exact h.setCounter n ⟨hconstant, hvalue, by simpa using hpending, hrest⟩
      · exact h
    · exact h.setCounter n hc

theorem State.InBounds.setEnabled (h : s.InBounds) (n : Byte) (on : Bool) : (setEnabled n on s).1.InBounds := by
  unfold Machine.setEnabled
  split <;> exact h.congr rfl rfl rfl

/-! ### Every command keeps the bounds -/

theorem inBounds_exec {c : Instr} (h : s.InBounds) (he : exec c s = .next t) : t.InBounds := by
  cases c with
  | request r =>
    have hpresented : ({ s with rqp := { s.rqp with presented := s.rqp.presented ++ r.toList } } : State).InBounds :=
      h.congr rfl rfl rfl
    cases he
    split
    · exact hpresented.readOldest.finish
    · exact hpresented
  | losslessGatePass => cases he; exact h.gatePass
  | respondingRecordPlaced tag => cases he; exact h.placeWaiting tag
  | stopRecordReoffer => cases he; exact h.reofferStop
  | losslessStallTimeout tag => cases he; exact h.stallTimeout tag
  | responseDelivery n =>
    cases he
    split <;> exact h.congr rfl rfl rfl
  | memoryResponse m =>
    cases he
    split
    · exact h.forwardedResponse _ _ _
    · exact h.ringResponse _
  | portReturnToReady =>
    have hready : ({ s with mpa := { s.mpa with port := .ready } } : State).InBounds := h.congr rfl rfl rfl
    cases he
    split
    · exact hready.arbitrate
    · exact h
  | tick => cases he; exact h.tick
  | counterExpiry => cases he; exact h.expireCounters
  | holdTimeout n => cases he; exact h.holdExpire n
  | autonomousGap => cases he; exact h.autonomousGap
  | pathReset => cases he; exact h.pathReset
  | prstDeasserted => cases he; exact h.endPathReset
  | deviceReset | powerOn => cases he; exact inBounds_resetPart s
  | resetRelease => cases he; exact h.releaseReset
  | truncatedFrame | frameEnd | csDeassertedAfterReset => cases he; exact h.deassertCs _
  | frameStart => cases he; exact h.assertCs
  | unknownCommand code | getUnknownItem code =>
    cases he
    split
    · exact h
    · exact h.takeCommand h
  | getEntry n =>
    cases he
    exact h.takeCommand (by cases entryNumber n <;> exact h)
  | putUnsupportedItem code =>
    cases he
    split
    · split
      · exact h.takeCommand h
      · exact h
    · exact h.takeCommand h
  | status | getSession | getRing | getHold | getTimebase | getAlertmap | getTotals | getCounter | getSlot
  | getInflight => cases he; exact h.takeCommand h
  | putSession b => cases he; exact h.takeCommand (h.putSession b)
  | putRing b => cases he; exact h.takeCommand (h.putRing b)
  | putHold b => cases he; exact h.takeCommand (h.putHold b)
  | putTimebase b => cases he; exact h.takeCommand (h.putTimebase b)
  | putAlertmap b => cases he; exact h.takeCommand (h.putAlertmap b)
  | putEntry n b => cases he; exact h.takeCommand (h.putEntry n b)
  | putCounter n b => cases he; exact h.takeCommand (h.putCounter n b)
  | enable n => cases he; exact h.takeCommand (h.setEnabled n true)
  | disable n => cases he; exact h.takeCommand (h.setEnabled n false)
  | arm => cases he; exact h.takeCommand h.arm
  | stop => cases he; exact h.takeCommand h.stop
  | restart => cases he; exact h.takeCommand h.restart
  | clear => cases he; exact h.takeCommand h.clear
  | level v => cases he; exact h.takeCommand (h.level v)
  | readptr v => cases he; exact h.takeCommand (h.readptr v)
  | mark v => cases he; exact h.takeCommand (h.mark v)
  | release slot ticket disposition count words =>
    cases he
    split
    · exact h
    · exact h.takeCommand (h.release slot ticket disposition count words)
  | ack => cases he; exact h.takeCommand h.ack
  | done => cases he; exact h.takeCommand h.done

/-! ### The phase (R63) -/

theorem Prescale.divisor_pos (p : Prescale) : 0 < p.divisor := by cases p <;> decide

theorem tb_of_fixed (h : t.fixed = s.fixed) : t.tb = s.tb := congrArg Fixed.tb h

theorem countTick_tb (s : State) :
    (countTick s).tb = { s.tb with ticks := s.tb.ticks + 1#32, phase := 0 } := rfl

theorem tick_tb (hr : s.lines.reset = false) : (tick s).tb = { s.tb with ticks := s.tb.ticks + 1#32, phase := 0 } := by
  rw [tick, if_neg (by rw [hr]; exact Bool.false_ne_true), countTick_tb, tb_of_fixed (settle_fixed s)]

theorem State.phaseFits.tick (h : s.phaseFits) : (tick s).phaseFits := by
  cases hr : s.lines.reset with
  | true => rwa [Machine.tick, if_pos hr]
  | false =>
    rw [State.phaseFits, tick_tb hr]
    exact s.tb.prescale.divisor_pos

theorem State.phaseFits.putTimebase (h : s.phaseFits) (b : Bytes 1) : (putTimebase b s).1.phaseFits := by
  unfold Machine.putTimebase
  split
  · exact h
  · split
    case h_1 p _ => exact p.divisor_pos
    case h_2 => exact h

theorem phaseFits_exec {c : Instr} (h : s.phaseFits) (he : exec c s = .next t) : t.phaseFits := by
  cases hm : movesTime c with
  | false => rwa [State.phaseFits, exec_tb hm he]
  | true =>
    cases c with
    | tick => cases he; exact h.tick
    | putTimebase b =>
      cases he
      unfold Machine.takeCommand
      split
      · exact h.putTimebase b
      · exact h
    | deviceReset | powerOn => cases he; exact Prescale.divisor_pos .div1
    | _ => cases hm

/-! ### The frame (R165, R166, R172) -/

/-- A command that is taken was in a frame, and is answered. -/
theorem takeCommand_mgp (n : Nat) (act : State → State × List Byte) (s : State) :
    (takeCommand n act s).mgp = s.mgp ∨
      (s.mgp.frame = .receiving ∧ (takeCommand n act s).mgp.frame = .answering) := by
  by_cases hr : s.mgp.frame = .receiving
  · rw [takeCommand_of_receiving hr]
    exact .inr ⟨hr, rfl⟩
  · rw [takeCommand_of_not_receiving hr]
    exact .inl rfl

theorem mgp_of_fixed (h : t.fixed = s.fixed) : t.mgp = s.mgp := congrArg Fixed.mgp h

theorem countTick_mgp (s : State) : (countTick s).mgp = s.mgp := rfl

theorem tick_mgp (s : State) : (tick s).mgp = s.mgp := by
  unfold tick
  split
  · rfl
  · exact (countTick_mgp _).trans (mgp_of_fixed (settle_fixed s))

/-- A command that is not on the lines leaves the Management Port as it is, or is taken in a frame and answered. -/
theorem exec_mgp {c : Instr} (hl : movesLines c = false) (he : exec c s = .next t) :
    t.mgp = s.mgp ∨ (s.mgp.frame = .receiving ∧ t.mgp.frame = .answering) := by
  cases c with
  | pathReset | prstDeasserted | deviceReset | resetRelease | powerOn | truncatedFrame | frameEnd | frameStart
  | csDeassertedAfterReset => cases hl
  | request r =>
    cases he
    split
    · exact .inl (mgp_of_fixed ((finish_fixed _).trans (readOldest_fixed _)))
    · exact .inl rfl
  | losslessGatePass => cases he; exact .inl (mgp_of_fixed (gatePass_fixed _))
  | respondingRecordPlaced tag => cases he; exact .inl (mgp_of_fixed (placeWaiting_fixed _ _))
  | stopRecordReoffer => cases he; exact .inl (mgp_of_fixed (reofferStop_fixed _))
  | losslessStallTimeout tag => cases he; exact .inl (mgp_of_fixed (stallTimeout_fixed _ _))
  | responseDelivery n => cases he; split <;> exact .inl rfl
  | memoryResponse m =>
    cases he
    split
    · exact .inl (mgp_of_fixed (forwardedResponse_fixed _ _ _ _))
    · exact .inl (mgp_of_fixed (ringResponse_fixed _ _))
  | portReturnToReady =>
    cases he
    split
    · exact .inl (mgp_of_fixed (arbitrate_fixed _))
    · exact .inl rfl
  | tick => cases he; exact .inl (tick_mgp s)
  | counterExpiry => cases he; exact .inl (mgp_of_fixed (expireCounters_fixed _))
  | holdTimeout n => cases he; exact .inl (mgp_of_fixed (holdExpire_fixed _ _))
  | autonomousGap => cases he; exact .inl (mgp_of_fixed (autonomousGap_fixed _))
  | unknownCommand code | getUnknownItem code =>
    cases he
    split
    · exact .inl rfl
    · exact takeCommand_mgp ..
  | putUnsupportedItem code =>
    cases he
    split
    · split
      · exact takeCommand_mgp ..
      · exact .inl rfl
    · exact takeCommand_mgp ..
  | release slot ticket disposition count words =>
    cases he
    split
    · exact .inl rfl
    · exact takeCommand_mgp ..
  | _ => cases he; exact takeCommand_mgp ..

theorem State.frameSound.congr (h : s.frameSound) (hm : t.mgp = s.mgp) (hcs : t.lines.cs = s.lines.cs)
    (hr : t.lines.reset = s.lines.reset) : t.frameSound := by
  rwa [State.frameSound, hm, hcs, hr]

theorem State.frameSound.of_fixed {u : State} (h : s.frameSound) (hf : t.fixed = u.fixed) (hm : u.mgp = s.mgp)
    (hcs : u.lines.cs = s.lines.cs) (hr : u.lines.reset = s.lines.reset) : t.frameSound := by
  have hlines : t.lines = u.lines := congrArg Fixed.lines hf
  exact h.congr ((mgp_of_fixed hf).trans hm) (by rw [hlines, hcs]) (by rw [hlines, hr])

theorem frameSound_of_idle (hf : s.mgp.frame = .idle) (ha : s.mgp.answer = []) : s.frameSound :=
  ⟨fun hne => absurd hf hne, fun _ => ha⟩

/-- Without CS, or under RESET, no frame stands. -/
theorem State.frameSound.idle (h : s.frameSound) (hno : s.lines.cs = false ∨ s.lines.reset = true) :
    s.mgp.frame = .idle ∧ s.mgp.answer = [] := by
  have hidle : s.mgp.frame = .idle := by
    by_contra hne
    obtain ⟨hcs, hr⟩ := h.1 hne
    rw [hcs, hr] at hno
    simp at hno
  exact ⟨hidle, h.2 (by rw [hidle]; exact FrameState.noConfusion)⟩

theorem State.frameSound.pathReset (h : s.frameSound) : (pathReset s).frameSound := by
  unfold Machine.pathReset
  split
  · exact h
  · exact h.of_fixed (u := clearPath s) ((finish_fixed _).trans (raiseMapped_fixed _ _ _)) rfl rfl rfl

theorem State.frameSound.endPathReset (h : s.frameSound) : (endPathReset s).frameSound := by
  unfold Machine.endPathReset
  split
  · exact h.of_fixed ((finish_fixed _).trans (readOldest_fixed _)) rfl rfl rfl
  · exact h

/-- RESET is released with no frame standing (R172). -/
theorem State.frameSound.releaseReset (h : s.frameSound) : (releaseReset s).frameSound := by
  unfold Machine.releaseReset
  split
  case isTrue hr =>
    obtain ⟨hidle, hanswer⟩ := h.idle (.inr hr)
    have hm := mgp_of_fixed ((finish_fixed _).trans
      (readOldest_fixed { s with lines := { s.lines with reset := false } }))
    exact frameSound_of_idle ((congrArg ManagementPort.frame hm).trans hidle)
      ((congrArg ManagementPort.answer hm).trans hanswer)
  case isFalse => exact h

theorem State.frameSound.assertCs (h : s.frameSound) : (assertCs s).frameSound := by
  unfold Machine.assertCs
  split
  case isTrue => exact h
  case isFalse hcs =>
    dsimp only
    split
    case isTrue =>
      obtain ⟨hidle, hanswer⟩ := h.idle (.inl (Bool.eq_false_iff.2 hcs))
      exact frameSound_of_idle hidle hanswer
    case isFalse hr => exact ⟨fun _ => ⟨rfl, Bool.eq_false_iff.2 hr⟩, fun _ => rfl⟩

theorem State.frameSound.deassertCs (h : s.frameSound) (f : FrameState) : (deassertCs f s).frameSound := by
  unfold Machine.deassertCs
  split
  · exact frameSound_of_idle rfl rfl
  · exact h

theorem frameSound_exec {c : Instr} (h : s.frameSound) (he : exec c s = .next t) : t.frameSound := by
  cases hl : movesLines c with
  | false =>
    have hlines := exec_lines hl he
    obtain hm | ⟨hreceiving, hanswering⟩ := exec_mgp hl he
    · exact h.congr hm (by rw [hlines]) (by rw [hlines])
    · rw [State.frameSound, hlines]
      exact ⟨fun _ => h.1 (by rw [hreceiving]; exact FrameState.noConfusion), fun hne => absurd hanswering hne⟩
  | true =>
    cases c with
    | pathReset => cases he; exact h.pathReset
    | prstDeasserted => cases he; exact h.endPathReset
    | deviceReset | powerOn => cases he; exact frameSound_of_idle rfl rfl
    | resetRelease => cases he; exact h.releaseReset
    | truncatedFrame | frameEnd | csDeassertedAfterReset => cases he; exact h.deassertCs _
    | frameStart => cases he; exact h.assertCs
    | _ => cases hl

/-! ### Every step -/

theorem unitsSound_iff : s.unitsSound ↔ s.InBounds ∧ s.phaseFits ∧ s.frameSound := by
  constructor
  · rintro ⟨hcounters, halerts, hpass, hphase, hframe⟩
    exact ⟨⟨hcounters, halerts, hpass⟩, hphase, hframe⟩
  · rintro ⟨⟨hcounters, halerts, hpass⟩, hphase, hframe⟩
    exact ⟨hcounters, halerts, hpass, hphase, hframe⟩

theorem unitsSound_exec {c : Instr} (h : s.unitsSound) (he : exec c s = .next t) : t.unitsSound := by
  obtain ⟨hbounds, hphase, hframe⟩ := unitsSound_iff.1 h
  exact unitsSound_iff.2 ⟨inBounds_exec hbounds he, phaseFits_exec hphase he, frameSound_exec hframe he⟩

/-- A cycle of CLK is a tick before the phase can reach the divisor (R63). -/
theorem unitsSound_clkCycle (h : s.unitsSound) : (clkCycle s).unitsSound := by
  unfold clkCycle
  split
  case isTrue => exact h
  case isFalse =>
    split
    case isTrue => exact unitsSound_exec (c := .tick) h rfl
    case isFalse hphase =>
      obtain ⟨hcounters, halerts, hpass, -, hframe⟩ := h
      exact ⟨hcounters, halerts, hpass, Nat.lt_of_not_le hphase, hframe⟩

theorem unitsSound_step (h : s.unitsSound) (hs : step s = .next t) : t.unitsSound := by
  unfold step at hs
  split at hs
  case h_1 c rest _ => exact unitsSound_exec (s := { s with pending := rest }) h hs
  case h_2 =>
    cases hs
    exact unitsSound_clkCycle h

end Sys2Proof.Machine

namespace Sys2Proof.Proofs.TimebaseAndCounters

open Sys2Proof.Machine

/-- Settles O57: the bounds, the phase and the frame, each kept by every command. -/
theorem unitsInvariant : Obligations.UnitsInvariant := by
  rintro s t ⟨-, hunits, -⟩ hs
  exact unitsSound_step hunits hs

end Sys2Proof.Proofs.TimebaseAndCounters
end

section
/-! PUT COUNTER (R66 to R69), the tick with nothing due (R63, R64, R74), and the idle step (obligations O16, O52 and
O2). -/

namespace Sys2Proof.Machine

variable {s : State} {c : Counter} {n : Fin 4}

/-! ### The contents of a PUT COUNTER (R67, R68, TABLE 11.14) -/

/-- The fields of a PUT COUNTER that is not refused lie in their ranges. -/
theorem fields_of_counterOf {b : Bytes 11} (h : counterOf n b = some c) :
    b[0].toNat ≤ 1 ∧ b[1].toNat ≤ 1 ∧ (b[1] = 1#8 → b[2].toNat < n.val) ∧ b[3].toNat ≤ 1 ∧ b[4].toNat ≤ 1 ∧
      (∀ k : Fin 11, k.val ∈ [5, 6] → b[k].getLsbD 7 = true → b[k].toNat % 16 ≤ 3) ∧ b[7].toNat ≤ 1 ∧
      b[8].toNat ≤ 1 := by
  simp only [counterOf, Option.bind_eq_some_iff] at h
  obtain ⟨mode, hmode, source, hsource, start, hstart, reloading, hreload, alert, halert, level, hlevel, stop, hstop,
    record, hrecord, -⟩ := h
  have hcode : b[1].toNat ≤ 1 ∧ (b[1] = 1#8 → b[2].toNat < n.val) := by
    obtain ⟨hb, -⟩ | ⟨hb, hlt, -⟩ := source_cases hsource
    · rw [hb]
      exact ⟨by decide, fun h => absurd h (by decide)⟩
    · exact ⟨by rw [hb]; decide, fun _ => hlt⟩
  refine ⟨toNat_le_one_of_code hmode, hcode.1, hcode.2, toNat_le_one_of_code hstart, toNat_le_one_of_code hreload,
    fun k hk hb => ?_, toNat_le_one_of_code hstop, toNat_le_one_of_code hrecord⟩
  simp only [List.mem_cons, List.not_mem_nil, or_false] at hk
  obtain hk | hk := hk
  · obtain rfl : k = 5 := Fin.ext hk
    exact toNat_le_of_optionalOf halert hb
  · obtain rfl : k = 6 := Fin.ext hk
    exact toNat_le_of_optionalOf hlevel hb

/-- The contents that R67 refuses. -/
theorem counterOf_of_bad {b : Bytes 11}
    (h : 1 < b[0].toNat ∨ 1 < b[1].toNat ∨ (b[1] = 1#8 ∧ n.val ≤ b[2].toNat) ∨ 1 < b[3].toNat ∨ 1 < b[4].toNat ∨
      (∃ k : Fin 11, k.val ∈ [5, 6] ∧ b[k].getLsbD 7 = true ∧ 3 < b[k].toNat % 16) ∨ 1 < b[7].toNat ∨
      1 < b[8].toNat) : counterOf n b = none := by
  by_contra hsome
  obtain ⟨c, hc⟩ := Option.ne_none_iff_exists'.1 hsome
  obtain ⟨h0, h1, hcascade, h3, h4, hoptional, h7, h8⟩ := fields_of_counterOf hc
  obtain h | h | ⟨hb, hle⟩ | h | h | ⟨k, hk, hb, hlt⟩ | h | h := h
  case inr.inr.inl => exact absurd (hcascade hb) (by omega)
  case inr.inr.inr.inr.inr.inl => exact absurd (hoptional k hk hb) (by omega)
  all_goals omega

/-- A counter that is put between sessions is IDLE at its constant, with none pending (R68). -/
theorem idle_of_counterOf {b : Bytes 11} (h : counterOf n b = some c) :
    c.pending = none ∧ c.value = c.constant ∧ c.state = .idle := by
  simp only [counterOf, Option.bind_eq_some_iff, Option.some.injEq] at h
  obtain ⟨-, -, -, -, -, -, -, -, -, -, -, -, -, -, -, -, rfl⟩ := h
  exact ⟨rfl, rfl, rfl⟩

theorem Counter.sameConfig_iff (c d : Counter) : c.sameConfig d = true ↔ d.setup = c.setup := by
  rw [@eq_comm _ d.setup]
  simp only [Counter.sameConfig, Counter.setup, CounterSetup.mk.injEq, Bool.and_eq_true, decide_eq_true_eq, and_assoc]

/-! ### PUT COUNTER, in the order of its checks (R67, R68, R69) -/

theorem exec_putCounter (n : Fin 4) (b : Bytes 11) (s : State) :
    exec (.putCounter n b) s = .next (takeCommand 12 (putCounter n b) s) := rfl

theorem putCounter_of_badarg {b : Bytes 11} (hb : counterOf n b = none) : putCounter n b s = (s, [0x03#8]) := by
  rw [putCounter, hb]
  rfl

theorem putCounter_of_no_session {b : Bytes 11} (hb : counterOf n b = some c)
    (hs : s.sc.session ∉ [.watching, .stopping]) :
    putCounter n b s = ({ s with counters := s.counters.set n c }, [0x00#8]) := by
  simp only [putCounter, hb, (Session.records_eq_false_iff _).2 hs]
  rfl

theorem putCounter_of_same {b : Bytes 11} (hb : counterOf n b = some c) (hs : s.sc.session ∈ [.watching, .stopping])
    (hsame : c.setup = s.counters[n].setup) :
    putCounter n b s =
      ({ s with counters := s.counters.set n { s.counters[n] with pending := some c.constant } }, [0x00#8]) := by
  simp only [putCounter, hb, (Session.records_iff _).2 hs, (Counter.sameConfig_iff _ _).2 hsame]
  rfl

theorem putCounter_of_busy {b : Bytes 11} (hb : counterOf n b = some c) (hs : s.sc.session ∈ [.watching, .stopping])
    (hdiffers : c.setup ≠ s.counters[n].setup) : putCounter n b s = (s, [0x01#8]) := by
  have hnot : s.counters[n].sameConfig c = false := Bool.eq_false_iff.2 (mt (Counter.sameConfig_iff _ _).1 hdiffers)
  simp only [putCounter, hb, (Session.records_iff _).2 hs, hnot]
  rfl

/-! ### What is not due changes nothing (assumption 2) -/

theorem gatePass_of_idle (h : s.rqp.acceptance = .idle) : gatePass s = s := by
  rw [gatePass, h]

theorem placeWaiting_of_not_responding {tag : Fin 8} (h : s.rows[tag].state ≠ .responding) :
    placeWaiting tag s = s := by
  unfold placeWaiting
  split
  case h_1 hr _ => exact absurd hr h
  case h_2 => rfl

theorem reofferStop_of_not_due (h : ¬(s.sc.session = .stopping ∧ s.sc.stopRecord = .due)) : reofferStop s = s :=
  if_neg h

theorem autonomousGap_of_not_due (h : s.gapDue = false) : autonomousGap s = s := by
  simp [autonomousGap, h]

theorem expireCounters_of_not_due (h : s.expiryDue = false) : expireCounters s = s := by
  simp [expireCounters, h]

theorem holdExpire_of_not_due {n : Fin 2} (h : s.holdDue n = false) : holdExpire n s = s := by
  simp [holdExpire, h]

/-- With no wait at the LOSSLESS gate and none of its row, a tag has no stall limit to reach (R128). -/
theorem stallTimeout_of_no_wait {tag : Fin 8} (hport : s.rqp.acceptance = .idle)
    (hrow : s.rows[tag].state ≠ .responding) : stallTimeout tag s = s := by
  have hwrite : stallWrite tag s = s := by rw [stallWrite, hport]
  unfold stallTimeout
  split
  case h_1 hr => exact absurd hr hrow
  all_goals exact hwrite

theorem settle_of_nothingDue (h : s.nothingDue) : settle s = s := by
  obtain ⟨hport, hrows, hstop, hgap, hexpiry, hhold0, hhold1⟩ := h
  have hplace : allTags.foldl (fun u tag => placeWaiting tag u) s = s :=
    List.foldl_fixed' (fun tag => placeWaiting_of_not_responding (hrows tag)) _
  have hstall : allTags.foldl (fun u tag => stallTimeout tag u) s = s :=
    List.foldl_fixed' (fun tag => stallTimeout_of_no_wait hport (hrows tag)) _
  rw [settle, gatePass_of_idle hport, hplace, reofferStop_of_not_due hstop, autonomousGap_of_not_due hgap,
    expireCounters_of_not_due hexpiry, holdExpire_of_not_due hhold0, holdExpire_of_not_due hhold1, hstall]

/-! ### The tick (R63, R64, R74) -/

theorem exec_tick (s : State) : exec .tick s = .next (tick s) := rfl

theorem tick_of_nothingDue (hr : s.lines.reset = false) (h : s.nothingDue) : tick s = countTick s := by
  rw [tick, hr, settle_of_nothingDue h]
  rfl

theorem countTick_counters_of_watching (hw : s.sc.session = .watching) (n : Fin 4) :
    (countTick s).counters[n] = s.counters[n].tick := by
  simp [countTick, hw]

theorem countTick_counters_of_not_watching (hw : s.sc.session ≠ .watching) : (countTick s).counters = s.counters :=
  if_neg hw

theorem Counter.tick_of_above_one (hm : c.mode = .time) (hs : c.state = .counting) (hv : 2 ≤ c.value) :
    c.tick = { c with value := c.value - 1 } := by
  rw [Counter.tick, if_pos ⟨hm, hs⟩, if_neg (by omega)]

theorem Counter.tick_of_one (hm : c.mode = .time) (hs : c.state = .counting) (hv : c.value ≤ 1) :
    c.tick = { c with tickPending := true } := by
  rw [Counter.tick, if_pos ⟨hm, hs⟩, if_pos hv]

theorem Counter.tick_of_not_counting (h : c.mode ≠ .time ∨ c.state ≠ .counting) : c.tick = c :=
  if_neg (not_and_or.2 h)

end Sys2Proof.Machine

namespace Sys2Proof.Proofs.TimebaseAndCounters

open Sys2Proof.Machine

/-- Settles O16: each check in its order, and what a PUT COUNTER that is taken writes. -/
theorem putCounter : Obligations.PutCounter := by
  intro n b s hf
  simp only [exec_putCounter, takeCommand_of_receiving hf]
  refine ⟨fun hbad => ?badarg, fun c hb hs => ?replaced, fun c hb hs hsame => ?pending, fun c hb hs hdiffers => ?busy⟩
  case badarg => rw [putCounter_of_badarg (counterOf_of_bad hbad)]
  case replaced =>
    obtain ⟨hpending, hvalue, hidle⟩ := idle_of_counterOf hb
    refine ⟨hpending, hvalue, hidle, ?_⟩
    rw [putCounter_of_no_session hb hs]
  case pending => rw [putCounter_of_same hb hs hsame]
  case busy => rw [putCounter_of_busy hb hs hdiffers]

/-- Settles O52: what is due is settled without the timebase, and with nothing due the tick is the count alone. -/
theorem tickCountsUp : Obligations.TickCountsUp := by
  refine fun s hr => ⟨fun t ht => ?time, fun hdue => ⟨tick s, exec_tick s, ?_⟩⟩
  case time =>
    cases ht
    exact tick_tb hr
  rw [tick_of_nothingDue hr hdue]
  refine ⟨rfl, fun n => ⟨fun hw hm hs => ?counting, fun hnot => ?other⟩⟩
  case counting =>
    rw [countTick_counters_of_watching hw]
    exact ⟨Counter.tick_of_above_one hm hs, Counter.tick_of_one hm hs⟩
  case other =>
    by_cases hw : s.sc.session = .watching
    · rw [countTick_counters_of_watching hw]
      exact Counter.tick_of_not_counting (hnot.resolve_left (not_not_intro hw))
    · rw [countTick_counters_of_not_watching hw]

/-- Settles O2: with an empty queue a step is a cycle of CLK, by the line RESET and the phase. -/
theorem idleStepIsOneClkCycle : Obligations.IdleStepIsOneClkCycle := by
  intro s hempty
  have hstep : step s = .next (clkCycle s) := by rw [step, hempty]
  rw [hstep, clkCycle]
  refine ⟨fun hr => ?reset, fun hr hphase => ?phase, fun hr hphase => ?tick⟩
  case reset => rw [if_pos hr]
  case phase => rw [if_neg (by rw [hr]; exact Bool.false_ne_true), if_neg (by omega)]
  case tick => rw [if_neg (by rw [hr]; exact Bool.false_ne_true), if_pos hphase, exec_tick]

end Sys2Proof.Proofs.TimebaseAndCounters
end

section
/-! The expiries of one event at the counters, and COUNTER_EXPIRY (R73 to R77): obligation O53. -/

namespace Sys2Proof.Machine

variable {s : State}

/-! ### One event at the counters (R73 to R76) -/

/-- The counter below that a cascade counter counts has expired in this event, or not, by the time that counter takes
it (R75). -/
theorem Counter.counts_of_below {c : Counter} {ev : CounterEvent} {n : Fin 4} {below expired : BitVec 4}
    (hsource : c.sourceBelow n = true) (hbelow : ∀ k < n, below.getLsbD k.val = expired.getLsbD k.val) :
    c.counts ev n below = c.counts ev n expired := by
  unfold Counter.counts
  cases hs : c.source with
  | entries => cases c.mode <;> rfl
  | cascade k =>
    have hk : k < n := by simpa [Counter.sourceBelow, hs] using hsource
    cases c.mode with
    | event => simp only [hbelow k hk]
    | time => rfl

theorem Counter.expire_of_counting {c : Counter} (hs : c.state = .counting) :
    c.expire =
      { c with
        constant := c.pending.getD c.constant, value := c.pending.getD c.constant, pending := none, tickPending := false,
        state := if c.reload = .oneshot then .idle else .counting } := by
  unfold Counter.expire
  cases c.reload <;> simp [hs]

/-! ### The expiries of a tick (R74, R76, R77) -/

theorem exec_counterExpiry (s : State) : exec .counterExpiry s = .next (expireCounters s) := rfl

theorem expiryDue_iff :
    s.expiryDue = true ↔ s.sc.session = .watching ∧ ∃ n : Fin 4, s.counters[n].tickPending = true := by
  simp only [State.expiryDue, Bool.and_eq_true, decide_eq_true_eq, List.any_eq_true, Vector.mem_toList_iff,
    Vector.mem_iff_getElem]
  refine and_congr_right fun _ => ⟨?_, ?_⟩
  · rintro ⟨_, ⟨n, hn, rfl⟩, hp⟩
    exact ⟨⟨n, hn⟩, hp⟩
  · rintro ⟨n, hp⟩
    exact ⟨_, ⟨n.val, n.isLt, rfl⟩, hp⟩

/-- Causes leave a state at rest as it was. -/
theorem atRest_foldl_raise {α : Type} (cls : α → Option (Fin 4)) (k : CauseKind) (i : α → Nat) (l : List α)
    (h : s.atRest) : (l.foldl (fun u x => raise (cls x) k (i x) u) s).atRest := by
  induction l generalizing s with
  | nil => exact h
  | cons x l ih =>
    have hone : (raise (cls x) k (i x) s).atRest := by
      rw [raise_eq]
      exact h
    exact ih hone

end Sys2Proof.Machine

namespace Sys2Proof.Proofs.TimebaseAndCounters

open Sys2Proof.Machine

/-- Settles O53: each counter takes the event with the counters below it done, and COUNTER_EXPIRY is such an event while
an expiry stands. -/
theorem counterExpiry : Obligations.CounterExpiry := by
  refine ⟨?event, ?group, fun s hnone => ?none⟩
  case event =>
    intro ev cs new expired hsource htake n counted hcounted
    obtain ⟨below, hbelow, hnew, hexpired⟩ := takeEvent_at ev cs n
    rw [htake] at hbelow hnew hexpired
    have hcounts : cs[n].counts ev n below = true ↔ counted := by
      rw [Counter.counts_of_below (hsource n) hbelow, Counter.counts_iff, hcounted]
    dsimp only at hnew hexpired
    rw [hnew, hexpired]
    refine ⟨?expires, fun hc hv => ?reloads, fun hc hv => ?counts, fun hm hs hw hh => ?starts, fun hc hs => ?idle⟩
    case expires => rw [Counter.take_expires_iff, hcounts]
    case reloads => rw [Counter.take_of_expiring (hcounts.2 hc) hv, Counter.expire_of_counting (hcounted.1 hc).1]
    case counts => rw [Counter.take_of_counting (hcounts.2 hc) hv]
    case starts => rw [Counter.take_of_started (Counter.startedByHit_iff.2 ⟨hm, hs, hw⟩) hh]
    case idle =>
      rw [Counter.take_of_idle (mt hcounts.1 hc)]
      rwa [Counter.startedByHit_iff, and_assoc, and_assoc]
  case group =>
    intro s new expired hw hrest hpending htake hplain
    have hcauses := counterEvent_of_causes hw htake hplain
    have hatRest : State.atRest { s with counters := new } := hrest
    rw [exec_counterExpiry, expireCounters, if_pos (expiryDue_iff.2 ⟨hw, hpending⟩), hcauses,
      finish_of_atRest (atRest_foldl_raise _ _ _ _ hatRest)]
  case none =>
    have hdue : s.expiryDue = false := by
      rw [← Bool.not_eq_true, expiryDue_iff]
      rintro ⟨hw, n, hp⟩
      obtain hs | hpending := hnone
      · exact hs hw
      · rw [hpending n] at hp
        cases hp
    rw [exec_counterExpiry, expireCounters_of_not_due hdue]

end Sys2Proof.Proofs.TimebaseAndCounters
end

section
/-! RELEASE and HOLD_TIMEOUT: the checks of a RELEASE (R87, R168), and what the release of one slot makes of its
transaction, in closed form (R88 to R93): obligations O32 and O51. -/

namespace Sys2Proof.Machine

variable {s u : State} {n : Fin 2} {p : Parked} {slot ticket code count : Byte} {d : Disposition} {words : List Word}

/-! ### What a RELEASE asks for (R87, TABLE 11.5) -/

theorem slotNumber_of_val (h : slot.toNat = n.val) : slotNumber slot = some n := by
  have hlt : slot.toNat < 2 := h ▸ n.isLt
  rw [slotNumber, dif_pos hlt]
  exact congrArg some (Fin.ext h)

theorem slotNumber_of_large (h : 1 < slot.toNat) : slotNumber slot = none := dif_neg (by omega)

theorem releaseCode_cases (h : code.toNat ≤ 4) : code = 0#8 ∨ code = 1#8 ∨ code = 2#8 ∨ code = 3#8 ∨ code = 4#8 := by
  bv_omega

theorem releaseDispositionOf_of_large (h : 4 < code.toNat) : releaseDispositionOf code = none := by
  have hne : ∀ c : Byte, c.toNat ≤ 4 → code ≠ c := by
    rintro c hc rfl
    omega
  simp [releaseDispositionOf, hne 0#8 (by decide), hne 1#8 (by decide), hne 2#8 (by decide), hne 3#8 (by decide),
    hne 4#8 (by decide)]

/-- The codes 0 to 4 name the dispositions of TABLE 5.2: 1 and 3 do not suit a read, 4 does not suit a write, and 1 and 4
bring as many words as the transaction has beats. -/
theorem releaseDispositionOf_of_small (h : code.toNat ≤ 4) :
    ∃ d, releaseDispositionOf code = some d ∧
      (∀ k, suits d k = false ↔ (k = .read ∧ code.toNat ∈ [1, 3] ∨ k = .write ∧ code.toNat = 4)) ∧
      ∀ beats, wordsWanted d beats = if code.toNat ∈ [1, 4] then beats else 0 := by
  obtain rfl | rfl | rfl | rfl | rfl := releaseCode_cases h
  · exact ⟨.relForward, rfl, fun k => by cases k <;> decide, fun _ => rfl⟩
  · exact ⟨.relReplace, rfl, fun k => by cases k <;> decide, fun _ => rfl⟩
  · exact ⟨.relFail, rfl, fun k => by cases k <;> decide, fun _ => rfl⟩
  · exact ⟨.relAbsorb, rfl, fun k => by cases k <;> decide, fun _ => rfl⟩
  · exact ⟨.relSupply, rfl, fun k => by cases k <;> decide, fun _ => rfl⟩

/-! ### RELEASE, in the order of its checks (R87, R168) -/

theorem exec_release (slot ticket code count : Byte) (words : List Word) (s : State) :
    exec (.release slot ticket code count words) s = execRelease slot ticket code count words s := rfl

/-- A RELEASE with too many words announced is over at its fourth byte. -/
theorem exec_release_of_large (hf : s.mgp.frame = .receiving) (hcount : 8 < count.toNat) :
    exec (.release slot ticket code count words) s = .next (s.answered 4 [0x03#8]) := by
  rw [exec_release, execRelease, if_neg (by omega), takeCommand_of_receiving hf, release, if_pos hcount, releaseArgs,
    if_pos hcount]
  rfl

/-- A RELEASE whose frame has brought its words is answered as its checks say. -/
theorem exec_release_of_complete {bytes : List Byte} (hf : s.mgp.frame = .receiving) (hcount : count.toNat ≤ 8)
    (hlen : words.length = count.toNat) (h : release slot ticket code count words s = (u, bytes)) :
    exec (.release slot ticket code count words) s = .next (u.answered (4 + 4 * count.toNat) bytes) := by
  rw [exec_release, execRelease, if_neg (fun hne => hne.2 hlen), takeCommand_of_receiving hf, h, releaseArgs,
    if_neg (by omega)]

theorem release_of_unnamed (hcount : count.toNat ≤ 8) (h : 1 < slot.toNat ∨ 4 < code.toNat) :
    release slot ticket code count words s = (s, [0x03#8]) := by
  rw [release, if_neg (by omega)]
  obtain h | h := h
  · rw [slotNumber_of_large h]
    rfl
  · rw [releaseDispositionOf_of_large h]
    cases slotNumber slot <;> rfl

theorem release_of_named (hcount : count.toNat ≤ 8) (hslot : slot.toNat = n.val)
    (hcode : releaseDispositionOf code = some d) :
    release slot ticket code count words s = releaseChecked n ticket d count.toNat words s := by
  rw [release, if_neg (by omega), slotNumber_of_val hslot, hcode]

theorem releaseChecked_of_free {m : Nat} (h : s.hold.slots[n] = none) :
    releaseChecked n ticket d m words s = (s, [0x05#8]) := by
  rw [releaseChecked, h]
  rfl

theorem releaseChecked_of_stale {m : Nat} (hp : s.hold.slots[n] = some p) (h : p.ticket ≠ ticket) :
    releaseChecked n ticket d m words s = (s, [0x05#8]) := by
  simp only [releaseChecked, hp, if_pos h]
  rfl

theorem releaseChecked_of_illegal {m : Nat} (hp : s.hold.slots[n] = some p) (ht : p.ticket = ticket)
    (h : suits d p.kind = false) : releaseChecked n ticket d m words s = (s, [0x04#8]) := by
  simp only [releaseChecked, hp, if_neg (not_not_intro ht), if_pos h]
  rfl

theorem releaseChecked_of_badarg {m : Nat} (hp : s.hold.slots[n] = some p) (ht : p.ticket = ticket)
    (hs : suits d p.kind = true) (h : m ≠ wordsWanted d p.beats) :
    releaseChecked n ticket d m words s = (s, [0x03#8]) := by
  have hsuits : ¬ suits d p.kind = false := by rw [hs]; decide
  simp only [releaseChecked, hp, if_neg (not_not_intro ht), if_neg hsuits, if_pos h]
  rfl

theorem releaseChecked_of_taken {m : Nat} (hp : s.hold.slots[n] = some p) (ht : p.ticket = ticket)
    (hs : suits d p.kind = true) (h : m = wordsWanted d p.beats) :
    releaseChecked n ticket d m words s = (finish (releaseSlot (makeHit false) n d words s), [0x00#8]) := by
  have hsuits : ¬ suits d p.kind = false := by rw [hs]; decide
  simp only [releaseChecked, hp, if_neg (not_not_intro ht), if_neg hsuits, if_neg (not_not_intro h)]
  rfl

/-- A RELEASE that passes its checks is carried out. -/
theorem exec_release_of_taken (hf : s.mgp.frame = .receiving) (hslot : slot.toNat = n.val)
    (hp : s.hold.slots[n] = some p) (ht : p.ticket = ticket) (hcount : count.toNat ≤ 8)
    (hlen : words.length = count.toNat) (hcode : releaseDispositionOf code = some d) (hs : suits d p.kind = true)
    (hwords : count.toNat = wordsWanted d p.beats) :
    exec (.release slot ticket code count words) s =
      .next ((finish (releaseSlot (makeHit false) n d words s)).answered (4 + 4 * count.toNat) [0x00#8]) := by
  refine exec_release_of_complete hf hcount hlen ?_
  rw [release_of_named hcount hslot hcode, releaseChecked_of_taken hp ht hs hwords]

/-! ### The release of one slot, by whether it answers and whether it makes a record (R88 to R91) -/

/-- A release that forwards a transaction and makes no record: a read keeps its debt. -/
theorem releaseSlot_of_forward (make : HitRecord → State → State) (hp : s.hold.slots[n] = some p)
    (hd : d.answers = false) (hdebt : s.rows[p.tag].owed = false ∨ s.rows[p.tag].kind = .read) :
    releaseSlot make n d words s = (freeSlot n s).withQueued p.tag (forwardFields d words s.rows[p.tag]) := by
  have hnone : ((freeSlot n s).rows[p.tag].owed && (decide ((freeSlot n s).rows[p.tag].kind = .write) || false)) =
      false := by
    rw [freeSlot_rows]
    obtain h | h := hdebt
    · rw [h, Bool.false_and]
    · rw [h, Bool.or_false]
      exact Bool.and_false _
  simp only [releaseSlot, hp, hd, Bool.false_eq_true, if_false, hnone, queueForward_modifyRow]
  rfl

/-- A release that answers a transaction without a debt. -/
theorem releaseSlot_of_answer (make : HitRecord → State → State) (hp : s.hold.slots[n] = some p)
    (hd : d.answers = true) (howed : s.rows[p.tag].owed = false) :
    releaseSlot make n d words s =
      { freeSlot n s with
        rows := s.rows.set p.tag Row.empty
        rqp := { s.rqp with ready := s.rqp.ready ++
          [{ status := d.answerStatus, tag := p.tag,
             data := responseData (answerFields d words s.rows[p.tag]) d.answerStatus }] } } := by
  have hnone : (modifyRow p.tag (answerFields d words) (freeSlot n s)).rows[p.tag].owed = false := by
    simpa [answerFields] using howed
  simp only [releaseSlot, hp, hd, if_true, hnone, Bool.false_and, Bool.false_eq_true, if_false, deliverRow_eq]
  simp [modifyRow, freeSlot]

/-! ### The end of the step of a release that makes no record -/

theorem noGrant_of_issuing {port : Downstream} (h : s.mpa.port = .issuing port) : s.noGrant = true := by
  rw [State.noGrant, h]

/-- With no request waiting, a settled state stays settled as a slot becomes FREE and causes are raised. -/
theorem settled_freeSlot (h : s.settled) (hidle : s.rqp.acceptance = .idle) (n : Fin 2) (a : AlertUnit) :
    ({ freeSlot n s with au := a } : State).settled := by
  obtain ⟨-, hresp, hstop⟩ := h
  exact ⟨by simp [State.waitStands, hidle], hresp, hstop⟩

/-- A transaction that joins the Forward Queue while the port is busy stays there. -/
theorem atRest_released_forward {tag : Fin 8} {q : Row} (h : s.atRest) (hidle : s.rqp.acceptance = .idle)
    (howed : q.owed = s.rows[tag].owed) {port : Downstream} (hport : s.mpa.port = .issuing port) (a : AlertUnit) :
    ({ (freeSlot n s).withQueued tag q with au := a } : State).atRest := by
  obtain ⟨hwait, hresp, hstop, -⟩ := h
  have hsettled := settled_freeSlot ⟨hwait, hresp, hstop⟩ hidle n a
  obtain ⟨hwait', hresp', hstop'⟩ := settled_withQueued (q := q) hsettled hidle howed
  exact ⟨hwait', hresp', hstop', noGrant_of_issuing hport⟩

/-- A transaction that owes no record and is answered leaves nothing to do. -/
theorem finish_released_answer {tag : Fin 8} {r : Response} (h : s.atRest) (hidle : s.rqp.acceptance = .idle)
    (howed : s.rows[tag].owed = false) {port : Downstream} (hport : s.mpa.port = .issuing port) (a : AlertUnit) :
    finish { freeSlot n s with
        rows := s.rows.set tag Row.empty, rqp := { s.rqp with ready := s.rqp.ready ++ [r] }, au := a } =
      { freeSlot n s with
        rows := s.rows.set tag Row.empty, rqp := { s.rqp with ready := s.rqp.ready ++ [r] }, au := a } := by
  obtain ⟨hwait, hresp, hstop, -⟩ := h
  have hsettled := settled_freeSlot ⟨hwait, hresp, hstop⟩ hidle n a
  refine finish_of_rest (settled_of_row hsettled hidle rfl rfl rfl rfl (q := Row.empty) howed.symm (by decide)) ?_
  exact noGrant_of_issuing hport

/-! ### HOLD_TIMEOUT (R92, R93) -/

theorem exec_holdTimeout (n : Fin 2) (s : State) : exec (.holdTimeout n) s = .next (holdExpire n s) := rfl

theorem holdDue_iff : s.holdDue n = true ↔
    ∃ p, s.hold.slots[n] = some p ∧ s.hold.limit ≠ 0#24 ∧ s.hold.limit.toNat ≤ (s.tb.ticks - p.parkTime).toNat := by
  have hpos : 1 ≤ s.hold.limit.toNat ↔ s.hold.limit ≠ 0#24 := by
    rw [Nat.one_le_iff_ne_zero, ne_eq, ne_eq, ← BitVec.toNat_inj]
    rfl
  unfold State.holdDue State.slotAge
  cases s.hold.slots[n] with
  | none => simp
  | some p => simp only [Option.map_some, Bool.and_eq_true, decide_eq_true_eq, hpos, Option.some.injEq, exists_eq_left']

theorem holdDue_of_parked (hp : s.hold.slots[n] = some p) (hlimit : s.hold.limit ≠ 0#24)
    (hage : s.hold.limit.toNat ≤ (s.tb.ticks - p.parkTime).toNat) : s.holdDue n = true :=
  holdDue_iff.2 ⟨p, hp, hlimit, hage⟩

/-- A slot that times out is released with the timeout disposition, and then the cause is raised. -/
theorem holdExpire_of_due (h : s.holdDue n = true) :
    holdExpire n s =
      finish (raise s.hold.holdClass .holdTimeout n.val
        (releaseSlot (makeHit false) n (timeoutDisposition s.hold) [] s)) := by
  have hclass := congrArg (fun x => x.setup.holdClass)
    (releaseSlot_fixed s (makeHit_fixedMake false) n (timeoutDisposition s.hold) [])
  rw [holdExpire, if_pos h]
  exact congrArg (fun c => finish (raise c .holdTimeout n.val _)) hclass

/-- A raise after a change that the Alert Unit has no part in. -/
theorem raise_of_au_eq (cls : Option (Fin 4)) (k : CauseKind) (i : Nat) (h : u.au = s.au) :
    raise cls k i u = { u with au := (raise cls k i s).au } := by
  rw [raise_eq, raise_au_congr cls k i h]

/-- A transaction times out under TIMEOUT_FORWARD, with no record made: it owes none, or is a read. -/
theorem holdExpire_forward {port : Downstream} (hrest : s.atRest) (hidle : s.rqp.acceptance = .idle)
    (hport : s.mpa.port = .issuing port) (hdue : s.holdDue n = true) (hp : s.hold.slots[n] = some p)
    (hdebt : s.rows[p.tag].owed = false ∨ s.rows[p.tag].kind = .read) (hfail : s.hold.timeoutFail = false) :
    holdExpire n s =
      { freeSlot n s with
        rows := s.rows.set p.tag { s.rows[p.tag] with state := .queued, carry := .timeoutForward },
        fq := s.fq ++ [p.tag], au := (raise s.hold.holdClass .holdTimeout n.val s).au } := by
  have hforward : timeoutDisposition s.hold = .timeoutForward := by rw [timeoutDisposition, hfail]; rfl
  have hrow : forwardFields .timeoutForward [] s.rows[p.tag] = { s.rows[p.tag] with carry := .timeoutForward } := rfl
  have hend := atRest_released_forward (n := n) (q := { s.rows[p.tag] with carry := .timeoutForward }) hrest hidle rfl
    hport (raise s.hold.holdClass .holdTimeout n.val s).au
  rw [holdExpire_of_due hdue, hforward, releaseSlot_of_forward _ hp rfl hdebt, hrow, raise_of_au_eq (s := s),
    finish_of_atRest hend]
  · rfl
  · rfl

/-- What such a timeout leaves is at rest. -/
theorem atRest_holdExpire_forward {port : Downstream} (hrest : s.atRest) (hidle : s.rqp.acceptance = .idle)
    (hport : s.mpa.port = .issuing port) (hdue : s.holdDue n = true) (hp : s.hold.slots[n] = some p)
    (hdebt : s.rows[p.tag].owed = false ∨ s.rows[p.tag].kind = .read) (hfail : s.hold.timeoutFail = false) :
    (holdExpire n s).atRest := by
  rw [holdExpire_forward hrest hidle hport hdue hp hdebt hfail]
  exact atRest_released_forward (q := { s.rows[p.tag] with carry := .timeoutForward }) hrest hidle rfl hport _

/-- A transaction that owes no record times out under TIMEOUT_FAIL. -/
theorem holdExpire_fail {port : Downstream} (hrest : s.atRest) (hidle : s.rqp.acceptance = .idle)
    (hport : s.mpa.port = .issuing port) (hdue : s.holdDue n = true) (hp : s.hold.slots[n] = some p)
    (howed : s.rows[p.tag].owed = false) (hfail : s.hold.timeoutFail = true) :
    holdExpire n s =
      { freeSlot n s with
        rows := s.rows.set p.tag Row.empty,
        rqp := { s.rqp with ready := s.rqp.ready ++ [{ status := .error, tag := p.tag, data := [] }] },
        au := (raise s.hold.holdClass .holdTimeout n.val s).au } := by
  have hanswer : timeoutDisposition s.hold = .timeoutFail := by rw [timeoutDisposition, hfail]; rfl
  have hdata : responseData (answerFields .timeoutFail [] s.rows[p.tag]) .error = [] := by
    unfold responseData
    split
    · contradiction
    · rfl
    · rfl
  have hstatus : Disposition.timeoutFail.answerStatus = .error := rfl
  rw [holdExpire_of_due hdue, hanswer, releaseSlot_of_answer _ hp rfl howed, hstatus, hdata,
    raise_of_au_eq (s := s)]
  · exact finish_released_answer hrest hidle howed hport _
  · rfl

end Sys2Proof.Machine

namespace Sys2Proof.Proofs.BlockingAndHolding

open Sys2Proof.Machine

/-- Settles O32, one check after the other. -/
theorem releaseRefusals : Obligations.ReleaseRefusals := by
  refine fun slot ticket code count words s hf =>
    ⟨exec_release_of_large hf, fun hcount hlen => ⟨fun hunnamed => ?unnamed, fun n hslot hcode => ?named⟩⟩
  case unnamed => exact exec_release_of_complete hf hcount hlen (release_of_unnamed hcount hunnamed)
  case named =>
    obtain ⟨d, hd, hsuits, hwanted⟩ := releaseDispositionOf_of_small hcode
    have hchecked := release_of_named (ticket := ticket) (words := words) (s := s) hcount hslot hd
    refine ⟨fun hfree => ?free, fun p hp =>
      ⟨fun hstale => ?stale, fun ht hill => ?illegal, fun ht hlegal hbad => ?words⟩⟩
    case free => exact exec_release_of_complete hf hcount hlen (hchecked.trans (releaseChecked_of_free hfree))
    case stale => exact exec_release_of_complete hf hcount hlen (hchecked.trans (releaseChecked_of_stale hp hstale))
    case illegal =>
      exact exec_release_of_complete hf hcount hlen
        (hchecked.trans (releaseChecked_of_illegal hp ht ((hsuits _).2 hill)))
    case words =>
      have hsuit : suits d p.kind = true := eq_true_of_ne_false (mt (hsuits _).1 hlegal)
      have hne : count.toNat ≠ wordsWanted d p.beats := by
        rw [hwanted]
        obtain ⟨hmem, hne⟩ | ⟨hmem, hne⟩ := hbad
        · rwa [if_pos hmem]
        · rwa [if_neg hmem]
      exact exec_release_of_complete hf hcount hlen (hchecked.trans (releaseChecked_of_badarg hp ht hsuit hne))

/-- Settles O51, by whether the slot is due and by the timeout disposition. -/
theorem holdTimeout : Obligations.HoldTimeout := by
  refine fun n s => ⟨fun hnot => ?notDue, fun p port t hrest hidle hport hp hlimit hage howed hstate ht => ?due⟩
  case notDue =>
    have hdue : s.holdDue n = false := by
      rw [← Bool.not_eq_true, holdDue_iff]
      rintro ⟨p, hp, hlimit, hage⟩
      obtain hfree | hzero | ⟨p', hp', hyoung⟩ := hnot
      · rw [hfree] at hp
        cases hp
      · exact hlimit hzero
      · rw [hp] at hp'
        cases hp'
        omega
    rw [exec_holdTimeout, holdExpire_of_not_due hdue]
  case due =>
    have hdue := holdDue_of_parked hp hlimit hage
    subst ht
    rw [exec_holdTimeout]
    exact ⟨fun hfail => by rw [holdExpire_forward hrest hidle hport hdue hp (.inl howed) hfail]; rfl,
      fun hfail => by rw [holdExpire_fail hrest hidle hport hdue hp howed hfail]; rfl⟩

end Sys2Proof.Proofs.BlockingAndHolding
end

section
/-! PUT HOLD with the timeouts it makes due (R92, R101), PUT TIMEBASE (R65) and PUT ALERTMAP (R158): obligation O14. -/

namespace Sys2Proof.Machine

variable {s t : State} {n : Fin 2} {limit : BitVec 24} {fail : Bool} {cls : Option (Fin 4)}

/-! ### PUT HOLD, in the order of its checks (R101) -/

theorem exec_putHold (b : Bytes 5) (s : State) : exec (.putHold b) s = .next (takeCommand 6 (putHold b) s) := rfl

/-- A HOLD item that is read back has its two codes in range. -/
theorem inRange_of_holdConfigOf {b : Bytes 5} {c : BitVec 24 × Bool × Option (Fin 4)} (h : holdConfigOf b = some c) :
    b[3].toNat ≤ 1 ∧ (b[4].getLsbD 7 = true → b[4].toNat % 16 ≤ 3) := by
  simp only [holdConfigOf, Option.bind_eq_some_iff] at h
  obtain ⟨_, hfail, _, hclass, -⟩ := h
  exact ⟨toNat_le_one_of_code hfail, toNat_le_of_optionalOf hclass⟩

theorem holdConfigOf_of_bad {b : Bytes 5} (h : 1 < b[3].toNat ∨ (b[4].getLsbD 7 = true ∧ 3 < b[4].toNat % 16)) :
    holdConfigOf b = none := by
  by_contra hsome
  obtain ⟨c, hc⟩ := Option.ne_none_iff_exists'.1 hsome
  obtain ⟨hfail, hclass⟩ := inRange_of_holdConfigOf hc
  obtain h | ⟨hset, h⟩ := h
  · omega
  · exact absurd (hclass hset) (by omega)

theorem putHold_of_badarg {b : Bytes 5} (h : holdConfigOf b = none) : putHold b s = (s, [0x03#8]) := by
  rw [putHold, h]
  rfl

/-- The Hold Unit with the fields that a PUT HOLD writes. -/
def State.withHoldConfig (s : State) (limit : BitVec 24) (fail : Bool) (cls : Option (Fin 4)) : State :=
  { s with hold := { s.hold with limit := limit, timeoutFail := fail, holdClass := cls } }

theorem putHold_of_taken {b : Bytes 5} (h : holdConfigOf b = some (limit, fail, cls)) :
    putHold b s = (expireBoth (s.withHoldConfig limit fail cls), [0x00#8]) := by
  rw [putHold, h]
  rfl

/-- A state at rest with no request waiting stays at rest, whatever a PUT HOLD writes. -/
theorem atRest_withHoldConfig (h : s.atRest) (hidle : s.rqp.acceptance = .idle) :
    (s.withHoldConfig limit fail cls).atRest := by
  obtain ⟨-, hresp, hstop, hgrant⟩ := h
  exact ⟨by simp [State.waitStands, State.withHoldConfig, hidle], hresp, hstop, hgrant⟩

/-! ### The timeouts that a PUT HOLD makes due (R92) -/

theorem expireBoth_of_none (h0 : s.holdDue 0 = false) (h1 : s.holdDue 1 = false) : expireBoth s = s := by
  simp only [expireBoth, h0, h1, Bool.and_false, Bool.false_eq_true, if_false, holdExpire_of_not_due h0,
    holdExpire_of_not_due h1]

/-- A slot is due or not by itself, the hold limit and the tick count (R92). -/
theorem holdDue_congr (hslot : t.hold.slots[n] = s.hold.slots[n]) (hlimit : t.hold.limit = s.hold.limit)
    (htb : t.tb = s.tb) : t.holdDue n = s.holdDue n := by
  rw [State.holdDue, State.holdDue, State.slotAge, State.slotAge, hslot, hlimit, htb]

/-- One slot is due, and its timeout leaves the other not due: it is the only one that times out. -/
theorem expireBoth_of_one (hn : s.holdDue n = true) (hother : s.holdDue (1 - n) = false)
    (hafter : (holdExpire n s).holdDue (1 - n) = false) : expireBoth s = holdExpire n s := by
  obtain rfl | rfl : n = 0 ∨ n = 1 := by omega
  · replace hother : s.holdDue 1 = false := hother
    simp only [expireBoth, hother, Bool.and_false, Bool.false_eq_true, if_false]
    exact holdExpire_of_not_due hafter
  · replace hother : s.holdDue 0 = false := hother
    simp only [expireBoth, hother, Bool.false_and, Bool.false_eq_true, if_false, holdExpire_of_not_due hother]

/-- Both slots are due: they time out one after the other, in an order that is the part's (assumption 9). -/
theorem expireBoth_of_both (h : ∀ n, s.holdDue n = true) :
    ∃ m : Fin 2, expireBoth s = holdExpire (1 - m) (holdExpire m { s with choices := s.choices + 1 }) := by
  simp only [expireBoth, h, Bool.and_true, if_true]
  split
  · exact ⟨1, rfl⟩
  · exact ⟨0, rfl⟩

theorem other_slot_ne : ∀ n : Fin 2, n.val ≠ (1 - n).val := by decide

theorem slot_cases : ∀ m n : Fin 2, n = m ∨ n = 1 - m := by decide

/-- What a slot that times out leaves of the other slot. -/
theorem freeSlot_other (n : Fin 2) (s : State) : (freeSlot n s).hold.slots[1 - n] = s.hold.slots[1 - n] := by
  simp [freeSlot, Vector.getElem_set_ne _ _ (other_slot_ne n)]

/-- Both slots time out under TIMEOUT_FORWARD, slot `m` first: each is complete before the other (R92, R93). -/
theorem holdExpire_both_forward {port : Downstream} {p : Fin 2 → Parked} (m : Fin 2) (hrest : s.atRest)
    (hidle : s.rqp.acceptance = .idle) (hport : s.mpa.port = .issuing port) (hfail : s.hold.timeoutFail = false)
    (hne : (p m).tag ≠ (p (1 - m)).tag) (hp : ∀ n : Fin 2, s.hold.slots[n] = some (p n))
    (hdue : ∀ n : Fin 2, s.holdDue n = true) (howed : ∀ n : Fin 2, s.rows[(p n).tag].owed = false) :
    holdExpire (1 - m) (holdExpire m s) =
      { s with
        hold := { s.hold with slots := (s.hold.slots.set m none).set (1 - m : Fin 2) none }
        rows := (s.rows.set (p m).tag { s.rows[(p m).tag] with state := .queued, carry := .timeoutForward }).set
          (p (1 - m)).tag { s.rows[(p (1 - m)).tag] with state := .queued, carry := .timeoutForward }
        fq := s.fq ++ [(p m).tag, (p (1 - m)).tag]
        au := (raise s.hold.holdClass .holdTimeout (1 - m).val (raise s.hold.holdClass .holdTimeout m.val s)).au } := by
  have hfirst := holdExpire_forward hrest hidle hport (hdue m) (hp m) (.inl (howed m)) hfail
  have hrest' := atRest_holdExpire_forward hrest hidle hport (hdue m) (hp m) (.inl (howed m)) hfail
  have hslot : (holdExpire m s).hold.slots[1 - m] = s.hold.slots[1 - m] := by
    rw [hfirst]
    exact freeSlot_other m s
  have hrow : (holdExpire m s).rows[(p (1 - m)).tag] = s.rows[(p (1 - m)).tag] := by
    rw [hfirst]
    exact (row_set ..).trans (if_neg hne.symm)
  have hdue' : (holdExpire m s).holdDue (1 - m) = true :=
    (holdDue_congr hslot (by rw [hfirst]; rfl) (by rw [hfirst]; rfl)).trans (hdue _)
  have hsecond := holdExpire_forward hrest' (by rw [hfirst]; exact hidle) (by rw [hfirst]; exact hport) hdue'
    (hslot.trans (hp _)) (.inl (by rw [hrow]; exact howed _)) (by rw [hfirst]; exact hfail)
  have hau : (holdExpire m s).au = (raise s.hold.holdClass .holdTimeout m.val s).au := by rw [hfirst]
  rw [hsecond, hrow, raise_au_congr _ _ _ hau, hfirst]
  simp only [freeSlot, List.append_assoc, List.singleton_append]

/-! ### PUT TIMEBASE and PUT ALERTMAP (R65, R158) -/

theorem exec_putTimebase (b : Bytes 1) (s : State) :
    exec (.putTimebase b) s = .next (takeCommand 2 (putTimebase b) s) := rfl

theorem no_session_iff (k : Session) : k.records = false ↔ k ∈ [Session.off, .stopped, .fault] := by
  cases k <;> decide

theorem putTimebase_of_state {b : Bytes 1} (h : s.sc.session ∈ [.watching, .stopping]) :
    putTimebase b s = (s, [0x02#8]) := by
  rw [putTimebase, (Session.records_iff _).2 h]
  rfl

theorem prescaleOf_of_large {b : Byte} (h : 3 < b.toNat) : prescaleOf b = none := by
  have hne : ∀ c : Byte, c.toNat ≤ 3 → b ≠ c := by
    rintro c hc rfl
    omega
  simp [prescaleOf, hne 0#8 (by decide), hne 1#8 (by decide), hne 2#8 (by decide), hne 3#8 (by decide)]

theorem prescaleOf_code (p : Prescale) : prescaleOf p.code = some p := by
  cases p <;> rfl

theorem putTimebase_of_badarg {b : Bytes 1} (h : s.sc.session ∈ [.off, .stopped, .fault])
    (hb : prescaleOf b[0] = none) :
    putTimebase b s = (s, [0x03#8]) := by
  rw [putTimebase, (no_session_iff _).2 h, hb]
  rfl

theorem putTimebase_of_taken {b : Bytes 1} {p : Prescale} (h : s.sc.session ∈ [.off, .stopped, .fault])
    (hb : prescaleOf b[0] = some p) :
    putTimebase b s = ({ s with tb := { s.tb with prescale := p, phase := 0 } }, [0x00#8]) := by
  rw [putTimebase, (no_session_iff _).2 h, hb]
  rfl

theorem exec_putAlertmap (b : Bytes 9) (s : State) :
    exec (.putAlertmap b) s = .next (takeCommand 10 (putAlertmap b) s) := rfl

/-- An alert map that is read back has every class that is marked present in range. -/
theorem inRange_of_alertMapOf {b : Bytes 9} {m : AlertMap} (h : alertMapOf b = some m) (n : Fin 9)
    (hn : b[n].getLsbD 7 = true) : b[n].toNat % 16 ≤ 3 := by
  simp only [alertMapOf, Option.bind_eq_some_iff] at h
  obtain ⟨_, h0, _, h1, _, h2, _, h3, _, h4, _, h5, _, h6, _, h7, _, h8, -⟩ := h
  have hall : ∀ k : Fin 9, ∃ o, optionalOf b[k] = some o := by
    intro k
    fin_cases k
    exacts [⟨_, h0⟩, ⟨_, h1⟩, ⟨_, h2⟩, ⟨_, h3⟩, ⟨_, h4⟩, ⟨_, h5⟩, ⟨_, h6⟩, ⟨_, h7⟩, ⟨_, h8⟩]
  obtain ⟨o, ho⟩ := hall n
  exact toNat_le_of_optionalOf ho hn

theorem alertMapOf_of_bad {b : Bytes 9} {n : Fin 9} (hn : b[n].getLsbD 7 = true) (h : 3 < b[n].toNat % 16) :
    alertMapOf b = none := by
  by_contra hsome
  obtain ⟨m, hm⟩ := Option.ne_none_iff_exists'.1 hsome
  exact absurd (inRange_of_alertMapOf hm n hn) (by omega)

theorem putAlertmap_of_badarg {b : Bytes 9} (h : alertMapOf b = none) : putAlertmap b s = (s, [0x03#8]) := by
  rw [putAlertmap, h]
  rfl

theorem putAlertmap_of_taken {b : Bytes 9} {m : AlertMap} (h : alertMapOf b = some m) :
    putAlertmap b s = ({ s with au := { s.au with map := m } }, [0x00#8]) := by
  rw [putAlertmap, h]
  rfl

end Sys2Proof.Machine

namespace Sys2Proof.Proofs.BlockingAndHolding

open Sys2Proof.Machine

/-- Settles O14: the checks; the timeouts of a PUT HOLD, none, one, or one after the other; PUT TIMEBASE and PUT
ALERTMAP. -/
theorem putHoldTimebaseAlertmap : Obligations.PutHoldTimebaseAlertmap := by
  intro s hf
  simp only [exec_putHold, exec_putTimebase, exec_putAlertmap, takeCommand_of_receiving hf]
  refine ⟨fun b hbad => ?badarg, fun b limit fail cls t hb ht h0 h1 => ?noneDue,
    fun b limit fail cls n p port t u hb ht hrest hidle hport hp hn hother howed hstate hu => ?oneDue,
    fun b limit cls p port t hb ht hrest hidle hport hne hdue => ?bothDue,
    fun b hs => by rw [putTimebase_of_state hs],
    fun b hs hlarge => by rw [putTimebase_of_badarg hs (prescaleOf_of_large hlarge)],
    fun b p hs hp => by rw [putTimebase_of_taken hs (hp ▸ prescaleOf_code p)],
    fun b hbad => ?map, fun b m hb => by rw [putAlertmap_of_taken hb]⟩
  case badarg => rw [putHold_of_badarg (holdConfigOf_of_bad hbad)]
  case map =>
    obtain ⟨n, hn, hlarge⟩ := hbad
    rw [putAlertmap_of_badarg (alertMapOf_of_bad hn hlarge)]
  case noneDue =>
    subst ht
    rw [putHold_of_taken hb]
    exact congrArg (fun v => Host.Outcome.next (State.answered v 6 [0x00#8])) (expireBoth_of_none h0 h1)
  case oneDue =>
    obtain rfl : t = s.withHoldConfig limit fail cls := ht
    have hrest' := atRest_withHoldConfig (limit := limit) (fail := fail) (cls := cls) hrest hidle
    have hau := raise_au_congr cls .holdTimeout n.val (t := s.withHoldConfig limit fail cls) (s := s) rfl
    rw [putHold_of_taken hb, hu]
    refine ⟨fun hfail => ?forward, fun hfail => ?fail⟩
    case forward =>
      have hone := holdExpire_forward hrest' hidle hport hn hp (.inl howed) hfail
      have hafter := holdDue_congr (n := 1 - n) (s := s.withHoldConfig limit fail cls)
        (t := holdExpire n (s.withHoldConfig limit fail cls)) (by rw [hone]; exact freeSlot_other n _)
        (by rw [hone]; rfl) (by rw [hone]; rfl)
      rw [expireBoth_of_one hn hother (hafter.trans hother), hone, ← hau]
      rfl
    case fail =>
      have hone := holdExpire_fail hrest' hidle hport hn hp howed hfail
      have hafter := holdDue_congr (n := 1 - n) (s := s.withHoldConfig limit fail cls)
        (t := holdExpire n (s.withHoldConfig limit fail cls)) (by rw [hone]; exact freeSlot_other n _)
        (by rw [hone]; rfl) (by rw [hone]; rfl)
      rw [expireBoth_of_one hn hother (hafter.trans hother), hone, ← hau]
      rfl
  case bothDue =>
    obtain rfl : t = s.withHoldConfig limit false cls := ht
    obtain ⟨m, hm⟩ := expireBoth_of_both fun n => (hdue n).2.1
    have hne' : (p m).tag ≠ (p (1 - m)).tag := by
      obtain rfl | rfl := slot_cases 0 m
      · exact hne
      · exact hne.symm
    have hrest' := atRest_withHoldConfig (limit := limit) (fail := false) (cls := cls) hrest hidle
    have hboth := holdExpire_both_forward
      (s := { s.withHoldConfig limit false cls with choices := s.choices + 1 }) m hrest' hidle hport rfl hne'
      (fun n => (hdue n).1) (fun n => (hdue n).2.1) fun n => (hdue n).2.2.1
    refine ⟨m, expireBoth (s.withHoldConfig limit false cls), by rw [putHold_of_taken hb], ?_⟩
    rw [hm]
    have hchoices : ({ s.withHoldConfig limit false cls with
        choices := (s.withHoldConfig limit false cls).choices + 1 } : State) = { s.withHoldConfig limit false cls with choices := s.choices + 1 } := rfl
    rw [hchoices, hboth]
    refine ⟨rfl, fun n => ⟨?slot, ?row⟩, fun k hk => ?other, raise_au_congr _ _ _ (raise_au_congr _ _ _ rfl), rfl⟩
    case slot =>
      refine (slot_set ..).trans ?_
      obtain rfl | rfl := slot_cases m n
      · refine (if_neg fun h => other_slot_ne n (congrArg Fin.val h)).trans ((slot_set ..).trans (if_pos rfl))
      · exact if_pos rfl
    case row =>
      refine (row_set ..).trans ?_
      obtain rfl | rfl := slot_cases m n
      · exact (if_neg hne').trans ((row_set ..).trans (if_pos rfl))
      · exact if_pos rfl
    case other =>
      exact (row_set ..).trans ((if_neg (hk _).symm).trans ((row_set ..).trans (if_neg (hk _).symm)))

end Sys2Proof.Proofs.BlockingAndHolding
end

section
/-! The release of a slot, carried out with the port busy: the transaction without a debt (R88 to R90), and the record of
one that owes it (R91, R93, R106 to R110, R123): the second part of obligation O33, and obligation O34. -/

namespace Sys2Proof.Machine

variable {s t : State} {n : Fin 2} {p : Parked} {d : Disposition} {words : List Word} {tag : Fin 8} {x : HitRecord}

/-! ### A release that makes no record -/

theorem forwardFields_owed (d : Disposition) (words : List Word) (r : Row) :
    (forwardFields d words r).owed = r.owed := by
  unfold forwardFields
  split <;> rfl

theorem finish_releaseSlot_of_forward {port : Downstream} (make : HitRecord → State → State) (hrest : s.atRest)
    (hidle : s.rqp.acceptance = .idle) (hport : s.mpa.port = .issuing port) (hp : s.hold.slots[n] = some p)
    (hd : d.answers = false) (howed : s.rows[p.tag].owed = false) :
    finish (releaseSlot make n d words s) =
      (freeSlot n s).withQueued p.tag (forwardFields d words s.rows[p.tag]) := by
  rw [releaseSlot_of_forward make hp hd (.inl howed)]
  exact finish_of_atRest
    (atRest_released_forward (n := n) (tag := p.tag) hrest hidle (forwardFields_owed d words _) hport s.au)

theorem finish_releaseSlot_of_answer {port : Downstream} (make : HitRecord → State → State) (hrest : s.atRest)
    (hidle : s.rqp.acceptance = .idle) (hport : s.mpa.port = .issuing port) (hp : s.hold.slots[n] = some p)
    (hd : d.answers = true) (howed : s.rows[p.tag].owed = false) :
    finish (releaseSlot make n d words s) =
      { freeSlot n s with
        rows := s.rows.set p.tag Row.empty
        rqp := { s.rqp with ready := s.rqp.ready ++
          [{ status := d.answerStatus, tag := p.tag,
             data := responseData (answerFields d words s.rows[p.tag]) d.answerStatus }] } } := by
  rw [releaseSlot_of_answer make hp hd howed]
  exact finish_released_answer (n := n) hrest hidle howed hport s.au

theorem responseData_error (r : Row) : responseData r .error = [] := by
  unfold responseData
  split
  · contradiction
  · rfl
  · rfl

theorem responseData_of_write {r : Row} (h : r.kind = .write) (status : RespStatus) : responseData r status = [] := by
  simp only [responseData, h]

theorem responseData_of_read {r : Row} (h : r.kind = .read) : responseData r .okay = r.readBuf := by
  simp only [responseData, h]

/-! ### The record of a released transaction (R106 to R110) -/

theorem buildHit_eq (s : State) (tag : Fin 8) (d : Disposition) (e r : Bool) :
    buildHit s tag d e r =
      { address := s.rows[tag].address, hitSet := s.rows[tag].hits, tag := tag, kind := s.rows[tag].kind,
        size := s.rows[tag].size, beats := s.rows[tag].beats, level := s.rows[tag].arrivalLevel, disposition := d,
        late := (s.rows[tag].hits &&& ~~~s.rows[tag].early) != 0#16, memError := e, holdRefused := r,
        losslessTimeout := false, elapsed := min 65535 (s.tb.ticks - s.rows[tag].takingTime).toNat,
        data := recordData s.rows[tag] } := by
  have hlate : decide (s.rows[tag].hits &&& ~~~s.rows[tag].early ≠ 0#16) =
      ((s.rows[tag].hits &&& ~~~s.rows[tag].early) != 0#16) := by
    rw [Bool.eq_iff_iff, decide_eq_true_eq, bne_iff_ne]
  rw [← hlate]
  rfl

theorem recordData_of_write {r : Row} (h : r.kind = .write) :
    recordData r = match r.option with
      | .none => []
      | .first => r.writeData.take 1
      | .all => r.writeData.take r.beats := by
  cases ho : r.option <;> simp only [recordData, h, ho]

theorem recordData_of_read {r : Row} (h : r.kind = .read) :
    recordData r = match r.option with
      | .none => []
      | .first => r.readBuf.take 1
      | .all => r.readBuf.take r.beats := by
  cases ho : r.option <;> simp only [recordData, h, ho]

/-- A release that answers changes nothing that the record of a write shows. -/
theorem buildHit_answerFields_of_write (h : s.rows[tag].kind = .write) :
    buildHit (modifyRow tag (answerFields d words) s) tag d false false = buildHit s tag d false false := by
  have hrow : (modifyRow tag (answerFields d words) s).rows[tag] = answerFields d words s.rows[tag] :=
    modifyRow_same s tag _
  have hdata : recordData (answerFields d words s.rows[tag]) = recordData s.rows[tag] := by
    rw [recordData_of_write (r := answerFields d words s.rows[tag]) h, recordData_of_write h]
    rfl
  rw [buildHit_eq, buildHit_eq, hrow, hdata]
  rfl

/-! ### A HIT record offered in WATCHING while the Ring Writer is busy (R105, R122, R123) -/

/-- What the offer of a HIT record makes of the queue: its bundle is placed whole, or it is dropped and counted. -/
def State.queueAfter (s : State) (x : HitRecord) (q : CaptureQueue) : Prop :=
  if wordsIn (bundle s (.hit x)) ≤ s.cq.room false then
    q = { s.cq with records := s.cq.records ++ bundle s (.hit x), pendingLoss := 0#32 }
  else q = { s.cq with lossCount := satAdd s.cq.lossCount 1, pendingLoss := satAdd s.cq.pendingLoss 1 }

theorem makeHit_offered (hw : s.sc.session = .watching) (hd : s.rw.ringDone = false) (hb : s.rw.writer ≠ .idle)
    (x : HitRecord) :
    ∃ q b a, s.queueAfter x q ∧ makeHit false x s = { s with cq := q, rbl := b, au := a } := by
  rw [makeHit_of_records (by rw [hw]; rfl)]
  by_cases hroom : wordsIn (bundle s (.hit x)) ≤ s.cq.room false
  · obtain ⟨hq, heq⟩ := offer_of_room hd hb hroom
    exact ⟨_, _, _, (if_pos hroom).mpr hq, heq⟩
  · obtain ⟨hq, heq⟩ := offer_of_no_room hd hroom
    exact ⟨_, _, _, (if_neg hroom).mpr hq, heq⟩

/-- A release that answers a transaction that owes a record: the record is made from the row as answered. -/
theorem releaseSlot_of_answer_record (hw : s.sc.session = .watching) (hd : s.rw.ringDone = false)
    (hb : s.rw.writer ≠ .idle) (hp : s.hold.slots[n] = some p) (hanswers : d.answers = true)
    (howed : s.rows[p.tag].owed = true)
    (hx : buildHit (modifyRow p.tag (answerFields d words) s) p.tag d false false = x) :
    ∃ q b a, s.queueAfter x q ∧
      releaseSlot (makeHit false) n d words s =
        { freeSlot n s with
          rows := s.rows.set p.tag Row.empty
          rqp := { s.rqp with ready := s.rqp.ready ++
            [{ status := d.answerStatus, tag := p.tag,
               data := responseData (answerFields d words s.rows[p.tag]) d.answerStatus }] }
          cq := q, rbl := b, au := a } := by
  obtain ⟨q, b, a, hq, hmake⟩ :=
    makeHit_offered (s := modifyRow p.tag (answerFields d words) (freeSlot n s)) hw hd hb x
  have hdebt : (modifyRow p.tag (answerFields d words) (freeSlot n s)).rows[p.tag].owed = true := by
    simpa [answerFields] using howed
  have hbuild : buildHit (modifyRow p.tag (answerFields d words) (freeSlot n s)) p.tag d false false = x := hx
  refine ⟨q, b, a, hq, ?_⟩
  simp only [releaseSlot, hp, hanswers, if_true, hdebt, Bool.or_true, Bool.and_true, hbuild, hmake, deliverRow_eq]
  simp [clearDebt, modifyRow, freeSlot, responseData, answerFields]

/-- A release that forwards a write that owes a record: the record is made from the master's data. -/
theorem releaseSlot_of_forward_record (hw : s.sc.session = .watching) (hd : s.rw.ringDone = false)
    (hb : s.rw.writer ≠ .idle) (hp : s.hold.slots[n] = some p) (hforwards : d.answers = false)
    (howed : s.rows[p.tag].owed = true) (hkind : s.rows[p.tag].kind = .write)
    (hx : buildHit s p.tag d false false = x) :
    ∃ q b a, s.queueAfter x q ∧
      releaseSlot (makeHit false) n d words s =
        { (freeSlot n s).withQueued p.tag (forwardFields d words { s.rows[p.tag] with owed := false }) with
          cq := q, rbl := b, au := a } := by
  obtain ⟨q, b, a, hq, hmake⟩ := makeHit_offered (s := freeSlot n s) hw hd hb x
  have hdebt : ((freeSlot n s).rows[p.tag].owed && (decide ((freeSlot n s).rows[p.tag].kind = .write) || false)) =
      true := by
    rw [freeSlot_rows, howed, hkind]
    rfl
  have hbuild : buildHit (freeSlot n s) p.tag d false false = x := hx
  refine ⟨q, b, a, hq, ?_⟩
  simp only [releaseSlot, hp, hforwards, Bool.false_eq_true, if_false, hdebt, if_true, hbuild, hmake,
    modifyRow_clearDebt, queueForward_modifyRow]
  rfl

/-! ### What follows of the step in WATCHING -/

theorem settled_of_watching (hw : s.sc.session = .watching) (hidle : s.rqp.acceptance = .idle)
    (hd : s.rw.ringDone = false) : s.settled := by
  refine ⟨by rw [State.waitStands, hidle], .inl ?_, fun hs => absurd (hw.symm.trans hs) (by decide)⟩
  rw [State.mayWait, hw, hd]
  rfl

theorem finish_of_watching {port : Downstream} (hw : s.sc.session = .watching) (hidle : s.rqp.acceptance = .idle)
    (hd : s.rw.ringDone = false) (hport : s.mpa.port = .issuing port) : finish s = s :=
  finish_of_rest (settled_of_watching hw hidle hd) (noGrant_of_issuing hport)

theorem arbitrate_cq (s : State) : (arbitrate s).cq = s.cq := by
  unfold arbitrate
  repeat' split
  all_goals rfl

theorem grantForward_owed (tag u : Fin 8) (rest : List (Fin 8)) (m : Nat) (s : State) :
    (grantForward tag rest m s).rows[u].owed = s.rows[u].owed := by
  have hrow : (grantForward tag rest m s).rows[u] =
      if u = tag then { s.rows[tag] with state := .issued } else s.rows[u] := row_set ..
  rw [hrow]
  split
  case isTrue h => rw [h]
  case isFalse => rfl

/-- A grant discharges no debt. -/
theorem arbitrate_owed (u : Fin 8) (s : State) : (arbitrate s).rows[u].owed = s.rows[u].owed := by
  unfold arbitrate
  split
  · rfl
  · split
    · rfl
    · rfl
    · exact grantForward_owed ..
    · split
      · rfl
      · exact grantForward_owed ..

/-- The release of a write that owes a record, whatever the disposition: the record has been made, and the debt is
discharged. -/
theorem releaseSlot_of_write_record (hw : s.sc.session = .watching) (hd : s.rw.ringDone = false)
    (hb : s.rw.writer ≠ .idle) (hp : s.hold.slots[n] = some p) (howed : s.rows[p.tag].owed = true)
    (hkind : s.rows[p.tag].kind = .write) (hx : buildHit s p.tag d false false = x)
    (ht : releaseSlot (makeHit false) n d words s = t) :
    s.queueAfter x t.cq ∧ t.hold = (freeSlot n s).hold ∧ t.rows[p.tag].owed = false ∧ t.sc = s.sc ∧ t.rw = s.rw ∧
      t.rqp.acceptance = s.rqp.acceptance := by
  cases hanswers : d.answers with
  | true =>
    obtain ⟨q, b, a, hq, heq⟩ := releaseSlot_of_answer_record (words := words) hw hd hb hp hanswers howed
      ((buildHit_answerFields_of_write hkind).trans hx)
    rw [← ht, heq]
    refine ⟨hq, rfl, ?_, rfl, rfl, rfl⟩
    exact congrArg Row.owed ((row_set ..).trans (if_pos rfl))
  | false =>
    obtain ⟨q, b, a, hq, heq⟩ := releaseSlot_of_forward_record (words := words) hw hd hb hp hanswers howed hkind hx
    rw [← ht, heq]
    refine ⟨hq, rfl, ?_, rfl, rfl, rfl⟩
    exact (congrArg Row.owed ((row_set ..).trans (if_pos rfl))).trans (forwardFields_owed ..)

end Sys2Proof.Machine

namespace Sys2Proof.Machine

variable {s : State} {n : Fin 2} {p : Parked} {d : Disposition} {words data : List Word} {x : HitRecord}

/-! ### The record of a read that is answered, and of a transaction that times out (R91, R93) -/

/-- A read's record at its release holds the words of a SUPPLY, and none else (R91, R109). -/
theorem buildHit_answered_read {r : Row} (hr : s.rows[p.tag] = r) (hkind : r.kind = .read)
    (hdata : (answerFields d words r).readBuf = data) :
    buildHit (modifyRow p.tag (answerFields d words) s) p.tag d false false =
      { address := r.address, hitSet := r.hits, tag := p.tag, kind := .read, size := r.size, beats := r.beats,
        level := r.arrivalLevel, disposition := d, late := (r.hits &&& ~~~r.early) != 0#16, memError := false,
        holdRefused := false, losslessTimeout := false, elapsed := min 65535 (s.tb.ticks - r.takingTime).toNat,
        data := match r.option with
          | .none => []
          | .first => data.take 1
          | .all => data.take r.beats } := by
  have hrow : (modifyRow p.tag (answerFields d words) s).rows[p.tag] = answerFields d words r := by
    rw [← hr]
    exact modifyRow_same s p.tag _
  have hrecord : recordData (answerFields d words r) = match r.option with
      | .none => []
      | .first => data.take 1
      | .all => data.take r.beats := by
    rw [recordData_of_read (r := answerFields d words r) hkind, hdata]
    rfl
  rw [buildHit_eq, hrow, hrecord, ← hkind]
  rfl

theorem recordData_of_no_words {r : Row} (h : r.readBuf = []) :
    recordData r = match r.kind, r.option with
      | .write, .first => r.writeData.take 1
      | .write, .all => r.writeData.take r.beats
      | _, _ => [] := by
  cases hkind : r.kind with
  | read => cases ho : r.option <;> simp [recordData, hkind, ho, h]
  | write => cases ho : r.option <;> simp [recordData, hkind, ho]

/-- The record of a transaction that times out: a write's data, and none of a read (R93, R109). -/
theorem buildHit_timedOut {t : State} {tag : Fin 8} {r : Row} (hbuf : r.readBuf = []) (htb : t.tb = s.tb)
    (hrow : t.rows[tag] = r ∨ t.rows[tag] = answerFields .timeoutFail [] r) :
    buildHit t tag d false false =
      { address := r.address, hitSet := r.hits, tag := tag, kind := r.kind, size := r.size, beats := r.beats,
        level := r.arrivalLevel, disposition := d, late := (r.hits &&& ~~~r.early) != 0#16, memError := false,
        holdRefused := false, losslessTimeout := false, elapsed := min 65535 (s.tb.ticks - r.takingTime).toNat,
        data := match r.kind, r.option with
          | .write, .first => r.writeData.take 1
          | .write, .all => r.writeData.take r.beats
          | _, _ => [] } := by
  obtain hrow | hrow := hrow
  · rw [buildHit_eq, hrow, htb, recordData_of_no_words hbuf]
  · rw [buildHit_eq, hrow, htb, recordData_of_no_words (r := answerFields .timeoutFail [] r) hbuf]
    rfl

/-- A timeout in WATCHING, with the port busy, is the release and the cause (R93). -/
theorem holdExpire_of_watching {t : State} {port : Downstream} (hdue : s.holdDue n = true)
    (ht : releaseSlot (makeHit false) n (timeoutDisposition s.hold) [] s = t) (hw : t.sc.session = .watching)
    (hidle : t.rqp.acceptance = .idle) (hd : t.rw.ringDone = false) (hport : t.mpa.port = .issuing port) :
    ∃ a, holdExpire n s = { t with au := a } := by
  rw [holdExpire_of_due hdue, ht, raise_eq]
  exact ⟨_, finish_of_watching (s := { t with au := _ }) hw hidle hd hport⟩

end Sys2Proof.Machine

namespace Sys2Proof.Proofs.BlockingAndHolding

open Sys2Proof.Machine

/-- Settles O34: the record is made at the release, of a read that is answered, at a timeout, and of a write. -/
theorem releasedWriteRecord : Obligations.ReleasedWriteRecord := by
  refine ⟨?read, ?timeout, ?write⟩
  case read =>
    intro n p slot ticket code count words data d status h x port s hf hslot hp ht hcount hlen hpkind hx hkind howed
      hstate hbuf hidle hw hrest hd hb hport hcode hh
    subst hx
    have hanswered : releaseDispositionOf code = some d ∧ suits d p.kind = true ∧ d.answers = true ∧
        d.answerStatus = status ∧ count.toNat = wordsWanted d p.beats ∧
        (answerFields d words s.rows[p.tag]).readBuf = data ∧
        responseData (answerFields d words s.rows[p.tag]) status = data := by
      rw [hpkind]
      obtain ⟨rfl, rfl, rfl, rfl, rfl⟩ | ⟨rfl, hbeats, rfl, rfl, rfl⟩ := hcode
      · exact ⟨rfl, rfl, rfl, rfl, rfl, hbuf, responseData_error _⟩
      · exact ⟨rfl, rfl, rfl, rfl, hbeats, rfl, responseData_of_read (r := answerFields _ _ _) hkind⟩
    obtain ⟨hdisp, hsuits, hanswers, hstatus, hwords, hread, hresponse⟩ := hanswered
    obtain ⟨q, b, a, hq, heq⟩ := releaseSlot_of_answer_record (words := words) hw hd hb hp hanswers howed
      ((buildHit_answered_read rfl hkind hread).trans hh.symm)
    rw [hstatus, hresponse] at heq
    refine ⟨releaseSlot (makeHit false) n d words s, ?_, by rw [heq]; exact hq, by rw [heq]; rfl⟩
    rw [exec_release_of_taken hf hslot hp ht hcount hlen hdisp hsuits hwords,
      finish_of_watching (s := releaseSlot (makeHit false) n d words s) (by rw [heq]; exact hw)
        (by rw [heq]; exact hidle) (by rw [heq]; exact hd) (by rw [heq]; exact hport)]
  case timeout =>
    intro n p d h x port s hp hlimit hage hx howed hstate hbuf hidle hw hrest hd hb hport hdisp hh
    subst hx
    have hdue := holdDue_of_parked hp hlimit hage
    rw [exec_holdTimeout]
    refine ⟨fun hmade => ⟨holdExpire n s, rfl, ?_⟩, fun hkind hfail => ?kept⟩
    case kept =>
      rw [holdExpire_forward hrest hidle hport hdue hp (.inr hkind) hfail]
      rfl
    cases hfail : s.hold.timeoutFail with
    | false =>
      have hforward : timeoutDisposition s.hold = .timeoutForward := by rw [timeoutDisposition, hfail]; rfl
      have hkind : s.rows[p.tag].kind = .write := hmade.resolve_right (by rw [hfail]; decide)
      obtain rfl : d = .timeoutForward := by rw [hdisp, hfail]; rfl
      obtain ⟨q, b, a, hq, heq⟩ := releaseSlot_of_forward_record (words := []) hw hd hb hp rfl howed hkind
        ((buildHit_timedOut hbuf rfl (.inl rfl)).trans hh.symm)
      have hreleased := (congrArg (fun e => releaseSlot (makeHit false) n e [] s) hforward).trans heq
      obtain ⟨a', hexpire⟩ := holdExpire_of_watching hdue hreleased hw hidle hd hport
      rw [hexpire]
      exact ⟨hq, fun _ => ⟨rfl, rfl, rfl⟩, nofun, rfl⟩
    | true =>
      have hanswer : timeoutDisposition s.hold = .timeoutFail := by rw [timeoutDisposition, hfail]; rfl
      obtain rfl : d = .timeoutFail := by rw [hdisp, hfail]; rfl
      obtain ⟨q, b, a, hq, heq⟩ := releaseSlot_of_answer_record (words := []) hw hd hb hp rfl howed
        ((buildHit_timedOut hbuf rfl (.inr (modifyRow_same s p.tag _))).trans hh.symm)
      have hstatus : Disposition.timeoutFail.answerStatus = .error := rfl
      rw [hstatus, responseData_error] at heq
      have hreleased := (congrArg (fun e => releaseSlot (makeHit false) n e [] s) hanswer).trans heq
      obtain ⟨a', hexpire⟩ := holdExpire_of_watching hdue hreleased hw hidle hd hport
      rw [hexpire]
      exact ⟨hq, nofun, fun _ => ⟨rfl, rfl, rfl⟩, rfl⟩
  case write =>
    intro n p slot ticket code count words d h s hf hslot hp ht hcount hlen hpkind hkind howed hidle hw hrest hd hb
      hcode haddress hhits htag hhkind hsize hbeats hlevel hdisp hlate herror hrefused hlossless helapsed hdata
    have hbuild : buildHit s p.tag d false false = h := by
      rw [buildHit_eq, recordData_of_write hkind, hkind]
      cases h
      dsimp only at haddress hhits htag hhkind hsize hbeats hlevel hdisp hlate herror hrefused hlossless helapsed hdata
      subst haddress hhits htag hhkind hsize hbeats hlevel hdisp hlate herror hrefused hlossless helapsed hdata
      rfl
    have hnamed : releaseDispositionOf code = some d ∧ suits d p.kind = true ∧ count.toNat = wordsWanted d p.beats := by
      rw [hpkind]
      obtain ⟨rfl, rfl, rfl⟩ | ⟨rfl, hbeats, rfl⟩ | ⟨rfl, rfl, rfl⟩ | ⟨rfl, rfl, rfl⟩ := hcode
      · exact ⟨rfl, rfl, rfl⟩
      · exact ⟨rfl, rfl, hbeats⟩
      · exact ⟨rfl, rfl, rfl⟩
      · exact ⟨rfl, rfl, rfl⟩
    obtain ⟨hcode, hsuits, hwords⟩ := hnamed
    obtain ⟨hq, hhold, hdebt, hsc, hring, hport⟩ :=
      releaseSlot_of_write_record (words := words) hw hd hb hp howed hkind hbuild rfl
    have hsettled := settled_of_watching (s := releaseSlot (makeHit false) n d words s) (by rw [hsc]; exact hw)
      (by rw [hport]; exact hidle) (by rw [hring]; exact hd)
    refine ⟨_, exec_release_of_taken hf hslot hp ht hcount hlen hcode hsuits hwords, ?_⟩
    rw [finish_of_settled hsettled, arbitrate_hold, arbitrate_owed, arbitrate_cq, hhold]
    refine ⟨(slot_set ..).trans (if_pos rfl), hdebt, ?_⟩
    unfold State.queueAfter at hq
    split at hq
    case isTrue hroom => rw [if_pos hroom, hq]; exact ⟨rfl, rfl⟩
    case isFalse hroom => rw [if_neg hroom, hq]; exact ⟨rfl, rfl⟩

end Sys2Proof.Proofs.BlockingAndHolding
end

section
/-! What the Request Port has in hand and what the Management Port shows bear on no record, release, stop or decision: a
state in which they are other goes the same way. A request taken after a release rests on it (R88, R96): the first part
of obligation O33. -/

namespace Sys2Proof.Machine

/-- The state with what the Request Port has in hand and what the Management Port shows changed. -/
def State.masked (a : Acceptance → Acceptance) (g : ManagementPort → ManagementPort) (s : State) : State :=
  { s with rqp := { s.rqp with acceptance := a s.rqp.acceptance }, mgp := g s.mgp }

variable {a : Acceptance → Acceptance} {g : ManagementPort → ManagementPort}

theorem ite_masked {c : Prop} [Decidable c] {x y x' y' : State} (hx : x' = x.masked a g) (hy : y' = y.masked a g) :
    (if c then x' else y') = (if c then x else y).masked a g := by
  split
  · exact hx
  · exact hy

theorem foldl_masked {α : Type} {f : State → α → State} (hf : ∀ s x, f (s.masked a g) x = (f s x).masked a g)
    (l : List α) (s : State) : l.foldl f (s.masked a g) = (l.foldl f s).masked a g := by
  induction l generalizing s with
  | nil => rfl
  | cons x l ih => rw [List.foldl_cons, List.foldl_cons, hf, ih]

/-! ### Causes and records -/

theorem raise_masked (cls : Option (Fin 4)) (k : CauseKind) (i : Nat) (s : State) :
    raise cls k i (s.masked a g) = (raise cls k i s).masked a g := by
  cases cls <;> rfl

theorem raiseMapped_masked (k : CauseKind) (i : Nat) (s : State) :
    raiseMapped k i (s.masked a g) = (raiseMapped k i s).masked a g := raise_masked ..

theorem dropRecord_masked (s : State) : dropRecord (s.masked a g) = (dropRecord s).masked a g :=
  ite_masked (raiseMapped_masked .lossBegin 0 { s with cq := { s.cq with
    lossCount := satAdd s.cq.lossCount 1, pendingLoss := satAdd s.cq.pendingLoss 1 } }) rfl

theorem append_masked (rs : List Record) (s : State) : append rs (s.masked a g) = (append rs s).masked a g :=
  ite_masked (raiseMapped_masked .queueUrgent 0 { s with cq := { s.cq with records := s.cq.records ++ rs } }) rfl

theorem admitBundle_masked (own : Bool) (b : RecordBody) (s : State) :
    admitBundle own b (s.masked a g) = (admitBundle own b s).map (State.masked a g) := by
  have hroom : (s.masked a g).cq.room own = s.cq.room own := rfl
  have hbundle : bundle (s.masked a g) b = bundle s b := rfl
  rw [admitBundle, admitBundle, hroom, hbundle, append_masked]
  split <;> rfl

/-! ### Releases and stops -/

/-- A way to deal with a release's record that what is masked does not bear on. -/
abbrev MaskedMake (a : Acceptance → Acceptance) (g : ManagementPort → ManagementPort)
    (make : HitRecord → State → State) : Prop := ∀ x s, make x (s.masked a g) = (make x s).masked a g

theorem maskedMake_countLost : MaskedMake a g fun _ => countLost 1 := fun _ _ => rfl

theorem releaseSlot_masked {make : HitRecord → State → State} (hm : MaskedMake a g make) (n : Fin 2) (d : Disposition)
    (words : List Word) (s : State) :
    releaseSlot make n d words (s.masked a g) = (releaseSlot make n d words s).masked a g := by
  have hslots : (s.masked a g).hold.slots[n] = s.hold.slots[n] := rfl
  unfold releaseSlot
  rw [hslots]
  cases s.hold.slots[n] with
  | none => rfl
  | some p =>
    have hanswer : (if d.answers then modifyRow p.tag (answerFields d words) (freeSlot n (s.masked a g))
        else freeSlot n (s.masked a g)) = (if d.answers then modifyRow p.tag (answerFields d words) (freeSlot n s)
        else freeSlot n s).masked a g := ite_masked rfl rfl
    dsimp only
    rw [hanswer]
    generalize (if d.answers then modifyRow p.tag (answerFields d words) (freeSlot n s) else freeSlot n s) = u
    have hrecord : (if (u.masked a g).rows[p.tag].owed &&
          (decide ((u.masked a g).rows[p.tag].kind = .write) || d.answers) then
          clearDebt p.tag (make (buildHit (u.masked a g) p.tag d false false) (u.masked a g)) else u.masked a g) =
        (if u.rows[p.tag].owed && (decide (u.rows[p.tag].kind = .write) || d.answers) then
          clearDebt p.tag (make (buildHit u p.tag d false false) u) else u).masked a g :=
      ite_masked (congrArg (clearDebt p.tag) (hm _ u)) rfl
    rw [hrecord]
    exact ite_masked rfl rfl

theorem releaseBoth_masked {make : HitRecord → State → State} (hm : MaskedMake a g make) (s : State) :
    releaseBoth make (s.masked a g) = (releaseBoth make s).masked a g := by
  rw [releaseBoth, releaseBoth, releaseSlot_masked hm, releaseSlot_masked hm]

theorem enterStoppingWith_masked {make : HitRecord → State → State} (hm : MaskedMake a g make) (reason : StopReason)
    (s : State) : enterStoppingWith make reason (s.masked a g) = (enterStoppingWith make reason s).masked a g :=
  releaseBoth_masked hm (freeze { s with sc := { s.sc with session := .stopping, reason := reason } })

theorem ringFinished_masked (s : State) : ringFinished (s.masked a g) = (ringFinished s).masked a g := by
  have hcause : raiseMapped .ringDone 0 (discardCounted
        { s.masked a g with rw := { (s.masked a g).rw with ringDone := true } }) =
      (raiseMapped .ringDone 0 (discardCounted { s with rw := { s.rw with ringDone := true } })).masked a g := by
    rw [← raiseMapped_masked]
    rfl
  unfold ringFinished
  rw [hcause]
  exact ite_masked (enterStoppingWith_masked maskedMake_countLost ..) rfl

theorem formPlacement_masked (s : State) : formPlacement (s.masked a g) = (formPlacement s).masked a g := by
  have hrecords : (s.masked a g).cq.records = s.cq.records := rfl
  unfold formPlacement
  rw [hrecords]
  cases s.cq.records with
  | nil => rfl
  | cons h _ =>
    have hchoice : (s.masked a g).rw.choose h = s.rw.choose h := rfl
    dsimp only
    rw [hchoice]
    cases s.rw.choose h with
    | write p => rfl
    | waitSpace => rfl
    | finished => exact ringFinished_masked s

theorem takeHead_masked (s : State) : takeHead (s.masked a g) = (takeHead s).masked a g :=
  ite_masked (formPlacement_masked s) rfl

theorem offer_masked (own : Bool) (b : RecordBody) (s : State) :
    offer own b (s.masked a g) = (offer own b s).masked a g := by
  unfold offer
  refine ite_masked rfl ?_
  rw [admitBundle_masked]
  cases admitBundle own b s with
  | none => exact dropRecord_masked s
  | some t => exact takeHead_masked t

theorem makeHit_masked (own : Bool) (x : HitRecord) (s : State) :
    makeHit own x (s.masked a g) = (makeHit own x s).masked a g :=
  ite_masked (offer_masked own _ s) rfl

theorem stopRequest_masked (reason : StopReason) (s : State) :
    stopRequest reason (s.masked a g) = (stopRequest reason s).masked a g :=
  ite_masked (enterStoppingWith_masked (makeHit_masked false) reason s) rfl

theorem levelRequest_masked (v : Fin 4) (c : LevelCause) (i : Nat) (s : State) :
    levelRequest v c i (s.masked a g) = (levelRequest v c i s).masked a g :=
  ite_masked (ite_masked (offer_masked false _ { s with sc := { s.sc with level := v } }) rfl) rfl

/-! ### Counters and hits -/

theorem expiryActions_masked (s : State) (n : Fin 4) :
    expiryActions n (s.masked a g) = (expiryActions n s).masked a g := by
  have hlevel : (s.masked a g).counters[n].nextLevel = s.counters[n].nextLevel := rfl
  have hcause : raise (s.masked a g).counters[n].alert .expiry n.val (s.masked a g) =
      (raise s.counters[n].alert .expiry n.val s).masked a g := raise_masked ..
  unfold expiryActions
  dsimp only
  rw [hlevel, hcause]
  cases s.counters[n].nextLevel with
  | none => exact ite_masked (offer_masked ..) rfl
  | some v =>
    dsimp only
    rw [levelRequest_masked]
    exact ite_masked (offer_masked ..) rfl

theorem expiryStop_masked (s : State) (n : Fin 4) : expiryStop n (s.masked a g) = (expiryStop n s).masked a g :=
  ite_masked (stopRequest_masked ..) rfl

theorem counterEvent_masked (ev : CounterEvent) (s : State) :
    counterEvent ev (s.masked a g) = (counterEvent ev s).masked a g := by
  refine ite_masked ?_ rfl
  have hactions := foldl_masked (f := fun u n => expiryActions n u) (a := a) (g := g) expiryActions_masked
    (countersIn (takeEvent ev s.counters).2) { s with counters := (takeEvent ev s.counters).1 }
  have hstops := foldl_masked (f := fun u n => expiryStop n u) (a := a) (g := g) expiryStop_masked
    (countersIn (takeEvent ev s.counters).2)
  exact (congrArg (fun u => (countersIn (takeEvent ev s.counters).2).foldl (fun u n => expiryStop n u) u)
    hactions).trans (hstops _)

theorem handOn_masked (tag : Fin 8) (o : MatchOutcome) (s : State) :
    handOn tag o (s.masked a g) = (handOn tag o s).masked a g := by
  have hhits : raiseHits o.alerts (countHits o.early (s.masked a g)) =
      (raiseHits o.alerts (countHits o.early s)).masked a g :=
    foldl_masked (f := fun u (x : Fin 16 × Fin 4) => raise (some x.2) .entryHit x.1.val u) (fun u x => raise_masked ..)
      o.alerts (countHits o.early s)
  have hlevel : ∀ u : State, requestLevel o.level (u.masked a g) = (requestLevel o.level u).masked a g := by
    intro u
    unfold requestLevel
    split
    · exact levelRequest_masked ..
    · rfl
  have hnotify : ∀ u : State, notify tag o.notices (u.masked a g) = (notify tag o.notices u).masked a g := by
    intro u
    rw [notify, notify, ← counterEvent_masked]
    rfl
  rw [handOn, handOn, hhits, hlevel, hnotify]

theorem requestStop_masked (o : Option (Fin 16)) (s : State) :
    requestStop o (s.masked a g) = (requestStop o s).masked a g := by
  unfold requestStop
  split
  · exact stopRequest_masked ..
  · rfl

/-! ### The decision (R34) -/

theorem decideForward_masked (tag : Fin 8) (d : Disposition) (refused : Bool) (s : State) :
    decideForward tag d refused (s.masked a g) = (decideForward tag d refused s).masked a g := by
  have hrecord : ∀ u : State, writeRecord tag d refused (u.masked a g) = (writeRecord tag d refused u).masked a g :=
    fun u => ite_masked (congrArg (clearDebt tag) (makeHit_masked true _ u)) rfl
  exact congrArg (queueForward tag) (hrecord (modifyRow tag (fun r => { r with carry := d, holdRefused := refused }) s))

theorem decideBlock_masked (tag : Fin 8) (status : RespStatus) (s : State) :
    decideBlock tag status (s.masked a g) = (decideBlock tag status s).masked a g := by
  have hrecord : ∀ u : State,
      (if (u.masked a g).rows[tag].owed then
        clearDebt tag (makeHit true (buildHit (u.masked a g) tag .blocked false false) (u.masked a g))
      else u.masked a g) =
        (if u.rows[tag].owed then clearDebt tag (makeHit true (buildHit u tag .blocked false false) u)
          else u).masked a g :=
    fun u => ite_masked (congrArg (clearDebt tag) (makeHit_masked true _ u)) rfl
  exact congrArg (deliverRow tag status) (hrecord (modifyRow tag (fun r => { r with
    late := 0#16
    readBuf := if r.kind = .read ∧ status = .okay then List.replicate r.beats 0#32 else [] }) s))

theorem decideHold_masked (tag : Fin 8) (entry : Fin 16) (s : State) :
    decideHold tag entry (s.masked a g) = (decideHold tag entry s).masked a g := by
  have hfree : (s.masked a g).hold.freeSlot = s.hold.freeSlot := rfl
  refine ite_masked ?_ (decideForward_masked ..)
  rw [hfree]
  cases s.hold.freeSlot with
  | none => exact (congrArg (raiseMapped _ _) (decideForward_masked ..)).trans (raiseMapped_masked ..)
  | some n =>
    change park tag n (s.masked a g) = (park tag n s).masked a g
    rw [park, park, ← raise_masked]
    rfl

theorem carryOut_masked (tag : Fin 8) (v : Verdict) (s : State) :
    carryOut tag v (s.masked a g) = (carryOut tag v s).masked a g := by
  cases v with
  | forward => exact decideForward_masked ..
  | block status => exact decideBlock_masked ..
  | hold entry => exact decideHold_masked ..

/-! ### The end of a step, but for what the Request Port waits for -/

theorem loseWaitingRow_masked (s : State) (tag : Fin 8) :
    loseWaitingRow tag (s.masked a g) = (loseWaitingRow tag s).masked a g := by
  have hrow : (s.masked a g).rows[tag] = s.rows[tag] := rfl
  by_cases h : s.rows[tag].state = .responding
  · cases hw : s.rows[tag].wait with
    | none => simp only [loseWaitingRow, hrow, h, hw]
    | some w =>
      simp only [loseWaitingRow, hrow, h, hw]
      rfl
  · rw [loseWaitingRow_of_not_responding h]
    exact loseWaitingRow_of_not_responding h

theorem offerStop_masked (s : State) : offerStop (s.masked a g) = (offerStop s).masked a g := by
  have hadmit : admitBundle false (.stop (s.masked a g).tb.ticks (s.masked a g).sc.reason) (s.masked a g) =
      (admitBundle false (.stop s.tb.ticks s.sc.reason) s).map (State.masked a g) := admitBundle_masked ..
  unfold offerStop
  refine ite_masked rfl ?_
  rw [hadmit]
  cases admitBundle false (.stop s.tb.ticks s.sc.reason) s with
  | none => rfl
  | some t => exact takeHead_masked { t with sc := { t.sc with stopRecord := .placed } }

theorem stopProgress_masked (s : State) : stopProgress (s.masked a g) = (stopProgress s).masked a g := by
  have hrecord : (s.masked a g).sc.stopRecord = s.sc.stopRecord := rfl
  refine ite_masked ?_ rfl
  rw [hrecord]
  cases s.sc.stopRecord with
  | notDue => exact ite_masked rfl (offerStop_masked s)
  | due => exact ite_masked (offerStop_masked s) rfl
  | placed => rfl

theorem stopComplete_masked (s : State) : stopComplete (s.masked a g) = (stopComplete s).masked a g :=
  ite_masked (raiseMapped_masked .sessionStopped 0 { s with sc := { s.sc with session := .stopped } }) rfl

theorem arbitrate_masked (s : State) : arbitrate (s.masked a g) = (arbitrate s).masked a g := by
  have hport : (s.masked a g).mpa.port = s.mpa.port := rfl
  have hfq : (s.masked a g).fq = s.fq := rfl
  have hring : (s.masked a g).rw.request = s.rw.request := rfl
  unfold arbitrate
  rw [hport, hfq, hring]
  cases s.mpa.port with
  | issuing _ => rfl
  | ready =>
    cases s.fq with
    | nil => cases s.rw.request <;> rfl
    | cons tag rest =>
      cases s.rw.request with
      | none => rfl
      | some b => exact ite_masked rfl rfl

end Sys2Proof.Machine
end

section
/-! The whole step, a request taken in it among others, goes the same way whatever the Management Port shows (R166). -/

namespace Sys2Proof.Machine

variable {g : ManagementPort → ManagementPort}

/-! ### Decisions and gates -/

theorem decideRequest_masked (tag : Fin 8) (o : MatchOutcome) (s : State) :
    decideRequest tag o (s.masked id g) = (decideRequest tag o s).masked id g := by
  rw [decideRequest, decideRequest, handOn_masked, carryOut_masked, requestStop_masked]
  rfl

theorem losslessGate_masked (tag : Fin 8) (o : MatchOutcome) (s : State) :
    losslessGate tag o (s.masked id g) = (losslessGate tag o s).masked id g :=
  ite_masked
    (ite_masked (decideRequest_masked tag o { s with cq := { s.cq with claim := some (claimSize s.rows[tag]) } }) rfl)
    (decideRequest_masked tag o s)

theorem takeRequest_masked (r : Request) (s : State) :
    takeRequest r (s.masked id g) = (takeRequest r s).masked id g :=
  ite_masked (losslessGate_masked _ _ (modifyRow r.tag (fun _ => matchedRow s r) s))
    (losslessGate_masked _ _ (modifyRow r.tag (fun _ => takenRow s r) s))

theorem conflictGate_masked (r : Request) (s : State) :
    conflictGate r (s.masked id g) = (conflictGate r s).masked id g :=
  ite_masked rfl (takeRequest_masked r { s with rqp := { s.rqp with acceptance := .idle } })

theorem readRequest_masked (r : Request) (s : State) :
    readRequest r (s.masked id g) = (readRequest r s).masked id g :=
  ite_masked (raiseMapped_masked ..)
    (ite_masked
      (raiseMapped_masked (a := id) (g := g) .portError r.tag.val
        (respond { status := .error, tag := r.tag, data := [] } s))
      (ite_masked rfl (conflictGate_masked r s)))

/-! ### The end of a step -/

theorem loseWaitingWrite_masked (s : State) :
    loseWaitingWrite (s.masked id g) = (loseWaitingWrite s).masked id g := by
  have hport : (s.masked id g).rqp.acceptance = s.rqp.acceptance := rfl
  unfold loseWaitingWrite
  rw [hport]
  cases s.rqp.acceptance with
  | waitLossless tag since o =>
    have hlost : clearDebt tag (if (s.masked id g).rows[tag].owed then countLost 1 (s.masked id g) else s.masked id g) =
        (clearDebt tag (if s.rows[tag].owed then countLost 1 s else s)).masked id g :=
      congrArg (clearDebt tag) (ite_masked (x := countLost 1 s) (y := s) rfl rfl)
    dsimp only
    rw [hlost, decideRequest_masked]
  | idle | waitOrphan r | waitConflict r => rfl

theorem endLosslessWaits_masked (s : State) :
    endLosslessWaits (s.masked id g) = (endLosslessWaits s).masked id g := by
  refine ite_masked rfl ?_
  rw [foldl_masked (f := fun u n => loseWaitingRow n u) loseWaitingRow_masked, loseWaitingWrite_masked]

theorem resumeWait_masked (s : State) : resumeWait (s.masked id g) = (resumeWait s).masked id g := by
  have hport : (s.masked id g).rqp.acceptance = s.rqp.acceptance := rfl
  unfold resumeWait
  rw [hport]
  cases s.rqp.acceptance with
  | waitOrphan r => exact ite_masked rfl (conflictGate_masked r s)
  | waitConflict r => exact conflictGate_masked r s
  | idle | waitLossless tag since o => rfl

theorem finish_masked (s : State) : finish (s.masked id g) = (finish s).masked id g := by
  rw [finish, finish, endLosslessWaits_masked, stopProgress_masked, resumeWait_masked, endLosslessWaits_masked,
    stopProgress_masked, stopComplete_masked, arbitrate_masked]

end Sys2Proof.Machine
end

section
/-! A request in the CONFLICT wait goes on at the end of the step that releases the slot: as a request read once that step
has done the rest of its work (R96). -/

namespace Sys2Proof.Machine

variable {s t : State} {r : Request} {x : RingWriter} {b : Bool} {port : Downstream}

/-! ### The request that waits as one that is read after the step -/

/-- The step that ends in `s`, with the request `r` in the CONFLICT wait, ends as the same step with no request in hand,
after which `r` is read. -/
structure State.ReadsAfter (s : State) (r : Request) : Prop where
  idle : (finish s.unhanded).rqp.acceptance = .idle
  read : finish s = finish (readRequest r (finish s.unhanded))

theorem finish_lines (s : State) : (finish s).lines = s.lines := congrArg Fixed.lines (finish_fixed s)

/-- A REQUEST that presents none reads the request that has waited, whatever the Management Port shows (assumption 4). -/
theorem State.ReadsAfter.exec_request (h : s.ReadsAfter r) (g : ManagementPort → ManagementPort)
    (hreset : s.lines.reset = false) (hprst : s.lines.prst = false) (ht : (finish s.unhanded).masked id g = t) :
    exec (.request none) { t with rqp := { t.rqp with presented := r :: t.rqp.presented } } =
      .next ((finish s).masked id g) := by
  obtain ⟨hidle, hread⟩ := h
  have hport : t.rqp.acceptance = .idle := by rw [← ht]; exact hidle
  have hlines : t.lines = s.lines := by
    rw [← ht]
    exact finish_lines s.unhanded
  have hread' := exec_request_of_presented (s := t) (r := r) (q := t.rqp.presented) (by rw [hlines]; exact hreset)
    (by rw [hlines]; exact hprst)
  rw [← hport] at hread'
  rw [hread, ← finish_masked, ← readRequest_masked, ht]
  exact hread'

/-- A line that is still covered keeps the request waiting. -/
theorem readsAfter_of_covered (hrest : s.atRest) (hwait : s.rqp.acceptance = .waitConflict r)
    (hrow : s.rows[r.tag].state = .empty) (hm : malformed r = false) : s.ReadsAfter r := by
  obtain ⟨hstands, hresp, hstop, hgrant⟩ := id hrest
  have hcovered : s.covered r.address = true := by rwa [State.waitStands, hwait] at hstands
  have hunhanded : finish s.unhanded = s.unhanded := finish_of_atRest ⟨rfl, hresp, hstop, hgrant⟩
  refine ⟨by rw [hunhanded]; rfl, ?_⟩
  have hback : conflictGate r s.unhanded = s := by
    rw [conflictGate_of_covered (s := s.unhanded) hcovered, ← hwait]
    rfl
  rw [hunhanded, readRequest_of_empty (s := s.unhanded) hrow hm, hback]

/-! ### A release while the Ring Writer takes no record -/

theorem State.RingHeld.stopComplete (h : s.RingHeld x b) : stopComplete s = s := by
  obtain hbusy | hnone := h.busy
  · exact stopComplete_of_busy (by rwa [h.rw])
  · refine stopComplete_of_stands fun hs => ?_
    have hrecords := h.records
    rw [hs, hnone] at hrecords
    cases hrecords

theorem stopProgress_mpa (s : State) : (stopProgress s).mpa = s.mpa := by
  obtain ⟨c, hc⟩ := stopProgress_eq s
  rw [hc]

theorem stopProgress_rows (s : State) : (stopProgress s).rows = s.rows := by
  obtain ⟨c, hc⟩ := stopProgress_eq s
  rw [hc]

theorem stopProgress_rqp (s : State) : (stopProgress s).rqp = s.rqp := by
  obtain ⟨c, hc⟩ := stopProgress_eq s
  rw [hc]

theorem stopProgress_unhanded (s : State) : stopProgress s.unhanded = (stopProgress s).unhanded :=
  stopProgress_masked (a := fun _ => .idle) (g := id) s

/-- No lossless wait ends while a request is in the CONFLICT wait. -/
theorem endLosslessWaits_of_waitConflict (h : s.rqp.acceptance = .waitConflict r)
    (hwaits : s.mayWait = true ∨ ∀ u : Fin 8, s.rows[u].state ≠ .responding) : endLosslessWaits s = s := by
  obtain hmay | hnone := hwaits
  · rw [endLosslessWaits, if_pos hmay]
  · exact endLosslessWaits_of_waitless ⟨by rw [h]; rfl, hnone⟩

theorem resumeWait_of_waitConflict (h : s.rqp.acceptance = .waitConflict r) : resumeWait s = conflictGate r s := by
  rw [resumeWait, h]

theorem readsAfter_of_ringHeld (h : s.RingHeld x b) (hwait : s.rqp.acceptance = .waitConflict r)
    (hrow : s.rows[r.tag].state = .empty) (hm : malformed r = false) (hport : s.mpa.port = .issuing port) :
    s.ReadsAfter r := by
  have hidle : s.unhanded.RingHeld x b := h.congr rfl rfl rfl
  have hprogress := stopProgress_unhanded s
  have hheld : (stopProgress s).unhanded.RingHeld x b := h.stopProgress.congr rfl rfl rfl
  have hwaits : ∀ u : State, u.RingHeld x b → u.mayWait = true ∨ ∀ v : Fin 8, u.rows[v].state ≠ .responding := by
    intro u hu
    refine hu.waits.imp (fun ⟨hb, hd⟩ => ?_) id
    rw [hu.mayWait, hb, hd]
    rfl
  have hdone : finish s.unhanded = (stopProgress s).unhanded := by
    have hmpa : (stopProgress s).unhanded.mpa.port = .issuing port :=
      (congrArg Arbiter.port (stopProgress_mpa s)).trans hport
    rw [hidle.finish rfl, hprogress, hheld.stopComplete, arbitrate_of_issuing hmpa]
  have hwait' : (stopProgress s).rqp.acceptance = .waitConflict r := by rw [stopProgress_rqp, hwait]
  have hrow' : (stopProgress s).unhanded.rows[r.tag].state = .empty := by
    have hrows : (stopProgress s).unhanded.rows = s.rows := stopProgress_rows s
    rw [hrows, hrow]
  obtain ⟨htaken, hstands⟩ := hheld.conflictGate r
  refine ⟨by rw [hdone]; rfl, ?_⟩
  rw [hdone, readRequest_of_empty hrow' hm, htaken.finish hstands, finish,
    endLosslessWaits_of_waitConflict hwait (hwaits s h), resumeWait_of_waitConflict hwait', ← conflictGate_unhanded,
    htaken.endLosslessWaits hstands]

end Sys2Proof.Machine
end

section
/-! What a request in the CONFLICT wait says of the state it waits in (R31, R95), and the steps that release the slot
whose line it waits for with the Ring Writer taking no record: obligation O33. -/

namespace Sys2Proof.Machine

variable {s t : State} {r : Request} {n : Fin 2} {port : Downstream} {x : RingWriter} {b : Bool}

/-! ### The state in which a request is in the CONFLICT wait -/

/-- A request that has been read is in the CONFLICT wait, at rest and with the port busy. -/
structure State.Conflicting (s : State) (r : Request) (port : Downstream) : Prop where
  wait : s.rqp.acceptance = .waitConflict r
  rest : s.atRest
  path : s.pathSound
  port : s.mpa.port = .issuing port

theorem State.Conflicting.sound (h : s.Conflicting r port) :
    malformed r = false ∧ s.rows[r.tag].state = .empty ∧ s.covered r.address = true := by
  obtain ⟨-, -, hport, -⟩ := h.path
  rw [State.portSound, h.wait] at hport
  obtain ⟨-, hm, hrow, hcovered⟩ := of_decide_eq_true hport
  exact ⟨hm, hrow, hcovered⟩

theorem State.Conflicting.row (h : s.Conflicting r port) : s.rows[r.tag] = Row.empty := by
  obtain ⟨-, -, -, -, hempty⟩ := h.path
  obtain ⟨-, hrow, -⟩ := h.sound
  exact hempty _ hrow

/-- A line is covered in WATCHING alone (R50). -/
theorem State.Conflicting.watching (h : s.Conflicting r port) : s.sc.session = .watching := by
  by_contra hw
  obtain ⟨-, ⟨-, -, -, -, hfree⟩, -⟩ := h.path
  obtain ⟨hfree0, hfree1⟩ := hfree hw
  obtain ⟨-, -, hcovered⟩ := h.sound
  obtain ⟨n, p, hp, -⟩ := covered_iff.1 hcovered
  have htag : s.slotTag n = some p.tag := by rw [State.slotTag, hp]; rfl
  obtain rfl | rfl := slot_cases 0 n
  · exact nomatch hfree0.symm.trans htag
  · exact nomatch hfree1.symm.trans htag

/-- The tag of the request is not one that a slot holds. -/
theorem State.Conflicting.slotTag_ne (h : s.Conflicting r port) (n : Fin 2) : s.slotTag n ≠ some r.tag := by
  obtain ⟨-, hrow, -⟩ := h.sound
  exact slotTag_ne_of_state h.path (by rw [hrow]; decide) n

/-- Without the request the state is at rest too. -/
theorem State.Conflicting.unhanded (h : s.Conflicting r port) : finish s.unhanded = s.unhanded := by
  obtain ⟨-, hresp, hstop, hgrant⟩ := h.rest
  exact finish_of_atRest ⟨rfl, hresp, hstop, hgrant⟩

theorem State.Conflicting.finish (h : s.Conflicting r port) : finish s = s := finish_of_atRest h.rest

/-- A step that does nothing leaves the request waiting. -/
theorem State.Conflicting.readsAfter (h : s.Conflicting r port) : s.ReadsAfter r := by
  obtain ⟨hm, hrow, -⟩ := h.sound
  exact readsAfter_of_covered h.rest h.wait hrow hm

/-! ### Releases with the Ring Writer busy -/

/-- A HIT record made while the Ring Writer takes no record changes the queue, the Record Builder and the Alert Unit
alone. -/
theorem makeHit_of_busy (hb : s.rw.writer ≠ .idle) (y : HitRecord) :
    ∃ q v a, makeHit false y s = { s with cq := q, rbl := v, au := a } := by
  unfold makeHit
  split
  case isFalse => exact ⟨_, _, _, rfl⟩
  case isTrue =>
    cases hd : s.rw.ringDone with
    | true => exact ⟨_, _, _, by rw [offer, if_pos hd]; rfl⟩
    | false =>
      by_cases hroom : wordsIn (bundle s (.hit y)) ≤ s.cq.room false
      · exact ⟨_, _, _, (offer_of_room hd hb hroom).2⟩
      · exact ⟨_, _, _, (offer_of_no_room hd hroom).2⟩

/-- `t` has of `s` the row of `tag`, the Memory Port, the Ring Writer and what the Request Port has in hand. -/
structure State.Beside (s : State) (tag : Fin 8) (t : State) : Prop where
  row  : t.rows[tag] = s.rows[tag]
  mpa  : t.mpa = s.mpa
  hand : t.rqp.acceptance = s.rqp.acceptance
  rw   : t.rw = s.rw

variable {u : State} {tag : Fin 8}

theorem State.Beside.congr (h : s.Beside tag t) (hrows : u.rows = t.rows) (hmpa : u.mpa = t.mpa)
    (hhand : u.rqp.acceptance = t.rqp.acceptance) (hring : u.rw = t.rw) : s.Beside tag u :=
  ⟨by rw [hrows, h.row], hmpa.trans h.mpa, hhand.trans h.hand, hring.trans h.rw⟩

theorem State.Beside.modifyRow (h : s.Beside tag t) {v : Fin 8} (hne : tag ≠ v) (f : Row → Row) :
    s.Beside tag (modifyRow v f t) :=
  ⟨((row_set ..).trans (if_neg hne)).trans h.row, h.mpa, h.hand, h.rw⟩

theorem State.Beside.queueForward (h : s.Beside tag t) {v : Fin 8} (hne : tag ≠ v) :
    s.Beside tag (queueForward v t) := by
  have hqueue : s.Beside tag { t with fq := t.fq ++ [v] } := h.congr rfl rfl rfl rfl
  exact hqueue.modifyRow hne _

theorem State.Beside.deliverRow (h : s.Beside tag t) {v : Fin 8} (hne : tag ≠ v) (status : RespStatus) :
    s.Beside tag (deliverRow v status t) := by
  have hrespond : s.Beside tag (respond { status := status, tag := v, data := responseData t.rows[v] status } t) :=
    h.congr rfl rfl rfl rfl
  exact hrespond.modifyRow hne _

theorem State.Beside.makeHit (h : s.Beside tag t) (hb : s.rw.writer ≠ .idle) (y : HitRecord) :
    s.Beside tag (makeHit false y t) := by
  obtain ⟨q, v, a, hmake⟩ := makeHit_of_busy (s := t) (by rwa [h.rw]) y
  rw [hmake]
  exact h.congr rfl rfl rfl rfl

/-- The release of a slot that holds another tag. -/
theorem State.Beside.releaseSlot (h : s.Beside tag t) (hb : s.rw.writer ≠ .idle) (n : Fin 2) (d : Disposition)
    (words : List Word) (htag : t.slotTag n ≠ some tag) :
    s.Beside tag (releaseSlot (Machine.makeHit false) n d words t) := by
  cases hp : t.hold.slots[n] with
  | none => rwa [releaseSlot_of_free hp]
  | some p =>
    have hne : tag ≠ p.tag := by
      rintro rfl
      exact htag (by rw [State.slotTag, hp]; rfl)
    have hfree : s.Beside tag (freeSlot n t) := h.congr rfl rfl rfl rfl
    have hanswer : s.Beside tag
        (if d.answers then Machine.modifyRow p.tag (answerFields d words) (freeSlot n t) else freeSlot n t) := by
      split
      · exact hfree.modifyRow hne _
      · exact hfree
    simp only [Machine.releaseSlot, hp]
    generalize (if d.answers then Machine.modifyRow p.tag (answerFields d words) (freeSlot n t) else freeSlot n t) = v
      at hanswer ⊢
    have hrecord : s.Beside tag
        (if v.rows[p.tag].owed && (decide (v.rows[p.tag].kind = .write) || d.answers) then
          clearDebt p.tag (Machine.makeHit false (buildHit v p.tag d false false) v) else v) := by
      split
      · exact (hanswer.makeHit hb _).modifyRow hne _
      · exact hanswer
    split
    · exact hrecord.deliverRow hne _
    · exact (hrecord.modifyRow hne _).queueForward hne

/-- A stop request, with no slot that holds the tag of an EMPTY row. -/
theorem beside_stopRequest (hw : s.sc.session = .watching) (reason : StopReason) (hrow : s.rows[tag] = Row.empty)
    (htag : ∀ n : Fin 2, s.slotTag n ≠ some tag) :
    (stopRequest reason s).rows[tag] = Row.empty ∧ (stopRequest reason s).mpa = s.mpa ∧
      (stopRequest reason s).rqp.acceptance = s.rqp.acceptance := by
  obtain ⟨m, hm⟩ := stopRequest_eq (s := s) (reason := reason) hw
  rw [hm]
  refine ⟨?_, rfl, rfl⟩
  have hrow' : (s.frozen reason).slotsReleased.rows[tag] = { s.rows[tag] with late := 0#16 } := by
    rw [slotsReleased_row, frozen_slotTag, frozen_slotTag, if_neg (not_or.2 ⟨htag 0, htag 1⟩), frozen_row]
  exact hrow'.trans (by rw [hrow]; rfl)

/-! ### The steps that release the line with the Ring Writer busy -/

/-- The Ring Writer takes no record while a request is in the CONFLICT wait, if it is busy. -/
theorem State.Conflicting.ringHeld (h : s.Conflicting r port) (hb : s.rw.writer ≠ .idle) : s.RingHeld s.rw true := by
  obtain ⟨hstands, hresp, hstop, -⟩ := h.rest
  have hheld := ringHeld_of_settled ⟨hstands, hresp, hstop⟩ (.inl hb)
  rwa [h.watching] at hheld

/-- The request goes on, or waits, as one that is read after the release of a slot. -/
theorem State.Conflicting.readsAfter_releaseSlot (h : s.Conflicting r port) (hb : s.rw.writer ≠ .idle) (n : Fin 2)
    (d : Disposition) (words : List Word) : (releaseSlot (makeHit false) n d words s).ReadsAfter r := by
  obtain ⟨hm, hrow, -⟩ := h.sound
  have hself : s.Beside r.tag s := ⟨rfl, rfl, rfl, rfl⟩
  obtain ⟨hrow', hmpa, hhand, -⟩ := hself.releaseSlot hb n d words (h.slotTag_ne n)
  exact readsAfter_of_ringHeld ((h.ringHeld hb).releaseSlot n d words) (hhand.trans h.wait) (by rw [hrow', hrow]) hm
    (by rw [hmpa]; exact h.port)

theorem State.Conflicting.readsAfter_timeout (h : s.Conflicting r port) (hb : s.rw.writer ≠ .idle) (n : Fin 2)
    (d : Disposition) (words : List Word) (cls : Option (Fin 4)) (k : CauseKind) (i : Nat) :
    (raise cls k i (releaseSlot (makeHit false) n d words s)).ReadsAfter r := by
  obtain ⟨hm, hrow, -⟩ := h.sound
  have hself : s.Beside r.tag s := ⟨rfl, rfl, rfl, rfl⟩
  obtain ⟨hrow', hmpa, hhand, -⟩ := hself.releaseSlot hb n d words (h.slotTag_ne n)
  have hheld := ((h.ringHeld hb).releaseSlot n d words).raise cls k i
  rw [raise_eq] at hheld ⊢
  exact readsAfter_of_ringHeld hheld (hhand.trans h.wait) (hrow'.symm ▸ hrow) hm
    ((congrArg Arbiter.port hmpa).trans h.port)

theorem State.Conflicting.readsAfter_stop (h : s.Conflicting r port) (hb : s.rw.writer ≠ .idle) (reason : StopReason) :
    (stopRequest reason s).ReadsAfter r := by
  obtain ⟨hm, -, -⟩ := h.sound
  obtain ⟨hrow, hmpa, hhand⟩ := beside_stopRequest h.watching reason h.row h.slotTag_ne
  exact readsAfter_of_ringHeld ((h.ringHeld hb).stopRequest reason) (hhand.trans h.wait) (by rw [hrow]; rfl) hm
    (by rw [hmpa]; exact h.port)

end Sys2Proof.Machine
end

section
/-! A request in the CONFLICT wait when the ring is finished or faults (R53, R140): its step releases both slots and ends
the lossless waits, and the request goes on in pass-through (R7, R96): obligation O33. -/

namespace Sys2Proof.Machine

variable {s t : State} {r : Request} {tag u : Fin 8} {port : Downstream}

/-! ### Lossless waits of rows end (R129) -/

theorem loseWaitingRow_not_responding (h : s.waitsSound) (tag : Fin 8) :
    (loseWaitingRow tag s).rows[tag].state ≠ .responding := by
  by_cases hs : s.rows[tag].state = .responding
  · obtain ⟨w, hw⟩ := Option.isSome_iff_exists.1 ((h tag).1 hs)
    have hlost : loseWaitingRow tag s = deliverRow tag w.status (countLost 1 s) := by simp only [loseWaitingRow, hs, hw]
    rw [hlost, deliverRow_row, if_pos rfl]
    decide
  · rwa [loseWaitingRow_of_not_responding hs]

/-- The row is as it was or EMPTY. -/
theorem loseWaitingRow_row (tag u : Fin 8) (s : State) :
    (loseWaitingRow tag s).rows[u] = s.rows[u] ∨ (loseWaitingRow tag s).rows[u] = Row.empty := by
  unfold loseWaitingRow
  split
  · rw [deliverRow_row]
    split
    · exact .inr rfl
    · exact .inl rfl
  · exact .inl rfl

theorem waitsSound_loseWaitingRow (h : s.waitsSound) (tag : Fin 8) : (loseWaitingRow tag s).waitsSound := by
  unfold loseWaitingRow
  split
  · exact waitsSound_deliverRow (s := countLost 1 s) h tag _
  · exact h

/-- What is left alone. -/
theorem loseWaitingRow_others (tag : Fin 8) (s : State) :
    ∃ x q c, loseWaitingRow tag s =
      { s with rows := x, rqp := { s.rqp with ready := q }, cq := { s.cq with lossCount := c } } := by
  unfold loseWaitingRow
  split
  · exact ⟨_, _, _, rfl⟩
  · exact ⟨_, _, _, rfl⟩

/-- Once each row of a list has lost its wait, none of them is RESPONDING. -/
theorem foldl_loseWaitingRow_not_responding (l : List (Fin 8)) (h : s.waitsSound)
    (hu : u ∈ l ∨ s.rows[u].state ≠ .responding) :
    (l.foldl (fun a v => loseWaitingRow v a) s).rows[u].state ≠ .responding := by
  induction l generalizing s with
  | nil => exact hu.resolve_left List.not_mem_nil
  | cons v l ih =>
    refine ih (waitsSound_loseWaitingRow h v) ?_
    rw [List.mem_cons] at hu
    obtain (rfl | hmem) | hstate := hu
    · exact .inr (loseWaitingRow_not_responding h u)
    · exact .inl hmem
    · obtain hrow | hrow := loseWaitingRow_row v u s
      · exact .inr (by rwa [hrow])
      · exact .inr (by rw [hrow]; decide)

/-! ### Once the ring is finished, or in FAULT -/

/-- Outside WATCHING no lossless wait can stand, no slot is PARKED, no room is claimed, and the request finds its row
EMPTY. -/
structure State.WaitsOver (s : State) (r : Request) (port : Downstream) : Prop where
  session : s.sc.session ≠ .watching
  quiet   : s.mayWait = false
  claim   : s.cq.claim = none
  slots   : ∀ n : Fin 2, s.hold.slots[n] = none
  row     : s.rows[r.tag] = Row.empty
  waits   : s.waitsSound
  port    : s.mpa.port = .issuing port

theorem State.WaitsOver.loseWaitingRow (h : s.WaitsOver r port) (tag : Fin 8) :
    (loseWaitingRow tag s).WaitsOver r port := by
  have hwaits := waitsSound_loseWaitingRow h.waits tag
  have hrow : (Machine.loseWaitingRow tag s).rows[r.tag] = Row.empty := by
    obtain hrow | hrow := loseWaitingRow_row tag r.tag s
    · rw [hrow, h.row]
    · exact hrow
  obtain ⟨x, q, c, heq⟩ := loseWaitingRow_others tag s
  rw [heq] at hrow hwaits ⊢
  exact ⟨h.session, h.quiet, h.claim, h.slots, hrow, hwaits, h.port⟩

theorem State.WaitsOver.unhanded (h : s.WaitsOver r port) : s.unhanded.WaitsOver r port :=
  ⟨h.session, h.quiet, h.claim, h.slots, h.row, h.waits, h.port⟩

theorem State.WaitsOver.foldl (h : s.WaitsOver r port) (l : List (Fin 8)) :
    (l.foldl (fun a v => Machine.loseWaitingRow v a) s).WaitsOver r port := by
  induction l generalizing s with
  | nil => exact h
  | cons v l ih => exact ih (h.loseWaitingRow v)

theorem offerStop_of_done (h : s.rw.ringDone = true) :
    offerStop s = countLost 1 { s with sc := { s.sc with stopRecord := .placed } } := if_pos h

theorem stopProgress_cases (s : State) :
    stopProgress s = s ∨ s.sc.session = .stopping ∧ stopProgress s = offerStop s := by
  by_cases hs : s.sc.session = .stopping
  · rw [stopProgress, if_pos hs]
    split
    · split
      · exact .inl rfl
      · exact .inr ⟨hs, rfl⟩
    · split
      · exact .inr ⟨hs, rfl⟩
      · exact .inl rfl
    · exact .inl rfl
  · exact .inl (if_neg hs)

/-- In STOPPING lossless waits cannot stand once RING_DONE is set (R129). -/
theorem done_of_quiet (h : s.mayWait = false) (hs : s.sc.session = .stopping) : s.rw.ringDone = true := by
  rw [State.mayWait, hs] at h
  simpa [Session.records] using h

/-- The STOP record is not placed in the queue then. -/
theorem stopProgress_of_quiet (h : s.mayWait = false) :
    ∃ x c, stopProgress s = { s with sc := { s.sc with stopRecord := x }, cq := { s.cq with lossCount := c } } := by
  obtain hsame | ⟨hs, hoffer⟩ := stopProgress_cases s
  · exact ⟨_, _, hsame⟩
  · exact ⟨_, _, hoffer.trans (offerStop_of_done (done_of_quiet h hs))⟩

theorem State.WaitsOver.stopProgress (h : s.WaitsOver r port) : (stopProgress s).WaitsOver r port := by
  obtain ⟨x, c, heq⟩ := stopProgress_of_quiet h.quiet
  rw [heq]
  exact ⟨h.session, h.quiet, h.claim, h.slots, h.row, h.waits, h.port⟩

theorem State.WaitsOver.not_covered (h : s.WaitsOver r port) (a : Word) : ¬ s.covered a = true := by
  rw [covered_iff]
  rintro ⟨n, p, hp, -⟩
  exact nomatch (h.slots n).symm.trans hp

/-- The request is taken in pass-through. -/
theorem State.WaitsOver.conflictGate (h : s.WaitsOver r port) :
    conflictGate r s = s.unhanded.withQueued r.tag (takenRow s r) := by
  have htaken := takeRequest_of_not_watching (s := s.unhanded) (r := r) h.session rfl h.claim
  rw [Machine.conflictGate, if_neg (h.not_covered _)]
  exact htaken

/-! ### A row that joins the Forward Queue in STOPPING (R51, R52) -/

/-- The transaction owes what its row owed: it is no hindrance to the end of STOPPING. -/
theorem someOwes_withQueued {q : Row} (howed : q.owed = s.rows[tag].owed) :
    (s.withQueued tag q).someOwes = s.someOwes := by
  have hrow : ∀ v : Fin 8, (s.withQueued tag q).rows[v].owed = s.rows[v].owed := by
    intro v
    have hset : (s.withQueued tag q).rows[v] = if v = tag then { q with state := .queued } else s.rows[v] := row_set ..
    rw [hset]
    split
    case isTrue h => rw [h]; exact howed
    case isFalse => rfl
  rw [Bool.eq_iff_iff, someOwes_iff, someOwes_iff]
  exact exists_congr fun v => by rw [hrow]

theorem stopProgress_withQueued {q : Row} (hquiet : s.mayWait = false) (howed : q.owed = s.rows[tag].owed) :
    stopProgress (s.withQueued tag q) = (stopProgress s).withQueued tag q := by
  have hsc : (s.withQueued tag q).sc = s.sc := rfl
  by_cases hs : s.sc.session = .stopping
  · have hd := done_of_quiet hquiet hs
    have hoffer : offerStop (s.withQueued tag q) = (offerStop s).withQueued tag q := by
      rw [offerStop_of_done hd, offerStop_of_done (s := s.withQueued tag q) hd]
      rfl
    have hring : (s.withQueued tag q).rw = s.rw := rfl
    rw [stopProgress, stopProgress, someOwes_withQueued howed, hoffer, hsc, hring, if_pos hs, if_pos hs]
    cases s.sc.stopRecord with
    | notDue => exact (apply_ite (State.withQueued · tag q) ..).symm
    | due => exact (apply_ite (State.withQueued · tag q) ..).symm
    | placed => rfl
  · rw [stopProgress, stopProgress, hsc, if_neg hs, if_neg hs]

theorem raiseMapped_withQueued (k : CauseKind) (i : Nat) (s : State) (tag : Fin 8) (q : Row) :
    raiseMapped k i (s.withQueued tag q) = (raiseMapped k i s).withQueued tag q := by
  have hcause : ∀ cls, raise cls k i (s.withQueued tag q) = (raise cls k i s).withQueued tag q := by
    intro cls
    cases cls <;> rfl
  exact hcause _

theorem stopComplete_withQueued {q : Row} (howed : q.owed = s.rows[tag].owed) :
    stopComplete (s.withQueued tag q) = (stopComplete s).withQueued tag q := by
  have hcause : raiseMapped .sessionStopped 0
        { s.withQueued tag q with sc := { (s.withQueued tag q).sc with session := .stopped } } =
      (raiseMapped .sessionStopped 0 { s with sc := { s.sc with session := .stopped } }).withQueued tag q :=
    raiseMapped_withQueued _ _ { s with sc := { s.sc with session := .stopped } } tag q
  rw [stopComplete, stopComplete, someOwes_withQueued howed, hcause]
  exact (apply_ite (State.withQueued · tag q) ..).symm

/-- The end of STOPPING leaves it no progress to make. -/
theorem stopComplete_settles (h : stopProgress s = s) :
    stopProgress (stopComplete s) = stopComplete s ∧ stopComplete (stopComplete s) = stopComplete s := by
  by_cases hdone : s.sc.session = .stopping ∧ s.someOwes = false ∧ s.sc.stopRecord = .placed ∧ s.cq.records = [] ∧
      s.rw.isIdle = true
  · have hstopped : (stopComplete s).sc.session ≠ .stopping := by
      rw [stopComplete, if_pos hdone, raiseMapped_eq]
      exact nofun
    exact ⟨stopProgress_of_stands fun hs => absurd hs hstopped, stopComplete_of_stands fun hs => absurd hs hstopped⟩
  · have hsame : stopComplete s = s := if_neg hdone
    rw [hsame]
    exact ⟨h, hsame⟩

end Sys2Proof.Machine
end

section
/-! The steps in which the ring is finished or faults while a request is in the CONFLICT wait (R53, R96, R132, R140):
obligation O33. -/

namespace Sys2Proof.Machine

variable {s t : State} {r : Request} {tag u : Fin 8} {port : Downstream}

/-! ### The request goes on once the ring is finished -/

theorem foldl_loseWaitingRow_acceptance (l : List (Fin 8)) (s : State) :
    (l.foldl (fun a v => loseWaitingRow v a) s).rqp.acceptance = s.rqp.acceptance := by
  induction l generalizing s with
  | nil => rfl
  | cons v l ih =>
    obtain ⟨x, q, c, heq⟩ := loseWaitingRow_others v s
    rw [List.foldl_cons, ih, heq]

/-- The RESPONDING rows of a list have lost their waits. -/
def State.waitsLost (s : State) (l : List (Fin 8)) : State := l.foldl (fun a v => loseWaitingRow v a) s

theorem waitsLost_unhanded (l : List (Fin 8)) (s : State) : s.unhanded.waitsLost l = (s.waitsLost l).unhanded :=
  foldl_masked (a := fun _ => .idle) (g := id) (f := fun u v => loseWaitingRow v u) loseWaitingRow_masked l s

theorem loseWaitingWrite_of_no_write (h : s.rqp.acceptance.heldTag = none) : loseWaitingWrite s = s := by
  unfold loseWaitingWrite
  cases hacc : s.rqp.acceptance with
  | waitLossless tag since o => rw [hacc] at h; cases h
  | idle | waitOrphan r | waitConflict r => rfl

theorem waitsLost_acceptance (l : List (Fin 8)) (s : State) : (s.waitsLost l).rqp.acceptance = s.rqp.acceptance :=
  foldl_loseWaitingRow_acceptance l s

/-- Where no write waits at the LOSSLESS gate, the waits that end are those of the rows. -/
theorem endLosslessWaits_of_rows (hmay : s.mayWait = false) (hheld : s.rqp.acceptance.heldTag = none) :
    endLosslessWaits s = s.waitsLost allTags := by
  rw [endLosslessWaits, if_neg (by rw [hmay]; decide), ← State.waitsLost]
  exact loseWaitingWrite_of_no_write (by rw [waitsLost_acceptance, hheld])

theorem State.WaitsOver.waitsLost (h : s.WaitsOver r port) (l : List (Fin 8)) : (s.waitsLost l).WaitsOver r port :=
  h.foldl l

theorem waitsLost_not_responding {l : List (Fin 8)} (h : s.waitsSound) (hu : u ∈ l) :
    (s.waitsLost l).rows[u].state ≠ .responding := foldl_loseWaitingRow_not_responding l h (.inl hu)

theorem State.WaitsOver.stopComplete (h : s.WaitsOver r port) : (stopComplete s).WaitsOver r port := by
  by_cases hdone : s.sc.session = .stopping ∧ s.someOwes = false ∧ s.sc.stopRecord = .placed ∧ s.cq.records = [] ∧
      s.rw.isIdle = true
  · rw [Machine.stopComplete, if_pos hdone, raiseMapped_eq]
    exact ⟨nofun, rfl, h.claim, h.slots, h.row, h.waits, h.port⟩
  · rwa [Machine.stopComplete, if_neg hdone]

/-- The request is taken at once, with what its taking writes, whether or not the step ends STOPPING too. -/
theorem State.WaitsOver.stopComplete_conflictGate (h : s.WaitsOver r port) (hidle : s.rqp.acceptance = .idle) :
    Machine.conflictGate r (Machine.stopComplete s) = Machine.stopComplete (Machine.conflictGate r s) := by
  have hunhanded : s.unhanded = s := acceptance_idle hidle
  have howed : (takenRow s r).owed = s.rows[r.tag].owed := by rw [h.row]; rfl
  have hself : (Machine.stopComplete s).unhanded = Machine.stopComplete s :=
    (stopComplete_masked (a := fun _ => .idle) (g := id) s).symm.trans (congrArg Machine.stopComplete hunhanded)
  have hrow : takenRow (Machine.stopComplete s) r = takenRow s r := by
    obtain ⟨c, hc⟩ := stopComplete_eq s
    rw [hc]
    rfl
  rw [h.stopComplete.conflictGate, h.conflictGate, hunhanded, hself, hrow, stopComplete_withQueued howed]

/-- What the request that goes on leaves for the rest of the step. -/
theorem State.WaitsOver.conflictGate_frame (h : s.WaitsOver r port) (hidle : s.rqp.acceptance = .idle)
    (hrows : ∀ u : Fin 8, s.rows[u].state ≠ .responding) (hprogress : Machine.stopProgress s = s) :
    (Machine.conflictGate r s).rqp.acceptance = .idle ∧
      (∀ u : Fin 8, (Machine.conflictGate r s).rows[u].state ≠ .responding) ∧
      Machine.stopProgress (Machine.conflictGate r s) = Machine.conflictGate r s ∧
      (Machine.conflictGate r s).mpa.port = .issuing port := by
  have htaken : Machine.conflictGate r s = s.withQueued r.tag (takenRow s r) :=
    h.conflictGate.trans (congrArg (State.withQueued · r.tag (takenRow s r)) (acceptance_idle hidle))
  rw [htaken]
  refine ⟨hidle, fun u => ?rows, ?progress, h.port⟩
  case rows =>
    have hrow : (s.withQueued r.tag (takenRow s r)).rows[u] =
        if u = r.tag then { takenRow s r with state := .queued } else s.rows[u] := row_set ..
    rw [hrow]
    split
    · exact nofun
    · exact hrows u
  case progress => rw [stopProgress_withQueued h.quiet (by rw [h.row]; rfl), hprogress]

/-- With no row RESPONDING, the request goes on in pass-through. -/
theorem readsAfter_of_no_row_waits (h : s.WaitsOver r port) (hrows : ∀ u : Fin 8, s.rows[u].state ≠ .responding)
    (hwait : s.rqp.acceptance = .waitConflict r) (hm : malformed r = false) : s.ReadsAfter r := by
  obtain ⟨y, hy⟩ : ∃ y, y = (stopProgress s).unhanded := ⟨_, rfl⟩
  have hover : y.WaitsOver r port := by rw [hy]; exact h.stopProgress.unhanded
  have hidle : y.rqp.acceptance = .idle := by rw [hy]; rfl
  have hrows' : ∀ u : Fin 8, y.rows[u].state ≠ .responding := by
    have heq : y.rows = s.rows := by rw [hy]; exact stopProgress_rows s
    rwa [heq]
  have hprogress : stopProgress y = y := by rw [hy, stopProgress_unhanded, stopProgress_idem]
  have hgate : conflictGate r (stopProgress s) = conflictGate r y := by rw [hy, conflictGate_unhanded]
  have hdone : finish s.unhanded = stopComplete y := by
    rw [finish_of_empty_path (s := s.unhanded) rfl hrows, stopProgress_unhanded, ← hy,
      arbitrate_of_issuing hover.stopComplete.port]
  obtain ⟨hxidle, hxrows, hxprogress, hxport⟩ := hover.conflictGate_frame hidle hrows' hprogress
  have htaken := hover.stopComplete_conflictGate hidle
  generalize conflictGate r y = x at hgate hxidle hxrows hxprogress hxport htaken
  obtain ⟨c, hc⟩ := stopComplete_eq x
  obtain ⟨c', hc'⟩ := stopComplete_eq y
  have hxport' : (stopComplete x).mpa.port = .issuing port := by rw [hc]; exact hxport
  have hyidle : (stopComplete y).rqp.acceptance = .idle := by rw [hc']; exact hidle
  obtain ⟨hagain, hagain'⟩ := stopComplete_settles hxprogress
  have hlhs : finish s = stopComplete x := by
    rw [finish, endLosslessWaits_of_waitless (s := s) ⟨by rw [hwait]; rfl, hrows⟩,
      resumeWait_of_waitConflict (s := stopProgress s) (by rw [stopProgress_rqp, hwait]), hgate,
      endLosslessWaits_of_waitless (s := x) ⟨by rw [hxidle]; rfl, hxrows⟩, hxprogress, arbitrate_of_issuing hxport']
  have hrhs : finish (stopComplete x) = stopComplete x := by
    rw [finish_of_empty_path (s := stopComplete x) (by rw [hc]; exact hxidle) (by rw [hc]; exact hxrows), hagain,
      hagain', arbitrate_of_issuing hxport']
  refine ⟨by rw [hdone, hyidle], ?_⟩
  rw [hdone, readRequest_of_empty (s := stopComplete y) (by rw [hover.stopComplete.row]; rfl) hm, htaken, hlhs, hrhs]

/-- In the step that finishes the ring the request goes on, in pass-through. -/
theorem readsAfter_of_waitsOver (h : s.WaitsOver r port) (hwait : s.rqp.acceptance = .waitConflict r)
    (hm : malformed r = false) : s.ReadsAfter r := by
  have hidle : endLosslessWaits s.unhanded = (s.waitsLost allTags).unhanded :=
    (endLosslessWaits_of_rows h.unhanded.quiet rfl).trans (waitsLost_unhanded allTags s)
  have hlost : endLosslessWaits s = s.waitsLost allTags := endLosslessWaits_of_rows h.quiet (by rw [hwait]; rfl)
  have hrows : ∀ u : Fin 8, (s.waitsLost allTags).rows[u].state ≠ .responding :=
    fun u => waitsLost_not_responding h.waits (mem_allTags u)
  have hwait' : (s.waitsLost allTags).rqp.acceptance = .waitConflict r := by rw [waitsLost_acceptance, hwait]
  have hover := h.waitsLost allTags
  generalize s.waitsLost allTags = w at hidle hlost hrows hwait' hover
  obtain ⟨hend, hread⟩ := readsAfter_of_no_row_waits hover hrows hwait' hm
  have hsame : finish s = finish w := by
    rw [finish, finish, hlost, endLosslessWaits_of_waitless (s := w) ⟨by rw [hwait']; rfl, hrows⟩]
  have hsame' : finish s.unhanded = finish w.unhanded := by
    rw [finish, finish, hidle, endLosslessWaits_of_waitless (s := w.unhanded) ⟨rfl, hrows⟩]
  exact ⟨by rw [hsame', hend], by rw [hsame, hsame', hread]⟩

end Sys2Proof.Machine
end

section
/-! Both slots are released at the end of the ring and in FAULT, with the records of released writes lost (R53, R97,
R140), and the request in the CONFLICT wait goes on in the same step (R96): obligation O33. -/

namespace Sys2Proof.Machine

variable {s t : State} {r : Request} {port : Downstream} {u : Fin 8}

/-! ### Releases whose records are lost -/

/-- A release with STOP_FORWARD whose record, if it makes one, is counted as lost. -/
theorem releaseSlot_lost (n : Fin 2) (s : State) :
    ∃ c, releaseSlot (fun _ => countLost 1) n .stopForward [] s =
      { s.slotReleased n with cq := { s.cq with lossCount := c } } := by
  cases hp : s.hold.slots[n] with
  | none => exact ⟨s.cq.lossCount, by rw [releaseSlot_of_free hp, slotReleased_of_free hp]⟩
  | some p =>
    simp only [releaseSlot, hp, Disposition.answers, Bool.or_false, Bool.false_eq_true, if_false,
      queueForward_modifyRow]
    split
    case isTrue hdebt =>
      rw [slotReleased_of_parked hp (Row.stopForwarded_of_record hdebt), ← queueForward_modifyRow,
        modifyRow_clearDebt, queueForward_modifyRow]
      exact ⟨_, rfl⟩
    case isFalse hdebt =>
      rw [slotReleased_of_parked hp (Row.stopForwarded_of_no_record hdebt)]
      exact ⟨s.cq.lossCount, rfl⟩

theorem releaseBoth_lost (s : State) :
    ∃ c, releaseBoth (fun _ => countLost 1) s = { s.slotsReleased with cq := { s.cq with lossCount := c } } := by
  obtain ⟨c, hc⟩ := releaseSlot_lost 0 s
  obtain ⟨c', hc'⟩ := releaseSlot_lost 1 { s.slotReleased 0 with cq := { s.cq with lossCount := c } }
  exact ⟨c', by rw [releaseBoth, hc, hc']; rfl⟩

/-! ### A session that leaves WATCHING with a request in the CONFLICT wait -/

/-- The session has left WATCHING, matching has ended, and both slots are released (R50, R53). -/
def State.left (s : State) (c : SessionController) : State := (freeze { s with sc := c }).slotsReleased

theorem left_row (s : State) (c : SessionController) (u : Fin 8) :
    (s.left c).rows[u] =
      if s.slotTag 0 = some u ∨ s.slotTag 1 = some u then ({ s.rows[u] with late := 0#16 } : Row).stopForwarded
      else { s.rows[u] with late := 0#16 } := by
  have hrow : (freeze { s with sc := c }).rows[u] = { s.rows[u] with late := 0#16 } := mapRows_getElem ..
  have htag : ∀ n : Fin 2, (freeze { s with sc := c }).slotTag n = s.slotTag n := fun _ => rfl
  rw [State.left, slotsReleased_row, hrow, htag, htag]

/-- A row holds a response only while it is RESPONDING, as before: the rows released hold none. -/
theorem waitsSound_left (h : s.pathSound) (c : SessionController) : (s.left c).waitsSound := by
  obtain ⟨-, ⟨hparked, -⟩, -, hwaits, -⟩ := h
  intro u
  rw [left_row]
  split
  case isFalse => exact hwaits u
  case isTrue htag =>
    have hnone : ¬ s.rows[u].wait.isSome = true := by
      rw [← hwaits u, (hparked u).2 htag]
      decide
    exact ⟨nofun, fun hsome => absurd hsome hnone⟩

theorem left_slots (s : State) (c : SessionController) (n : Fin 2) : (s.left c).hold.slots[n] = none := by
  rw [State.left, slotsReleased_hold]
  exact Vector.getElem_replicate ..

/-- The request finds its row EMPTY still. -/
theorem State.Conflicting.left (h : s.Conflicting r port) (c : SessionController) :
    (s.left c).rows[r.tag] = Row.empty := by
  rw [left_row, if_neg (not_or.2 ⟨h.slotTag_ne 0, h.slotTag_ne 1⟩), h.row]
  rfl

theorem State.Conflicting.waitsOver (h : s.Conflicting r port) {c : SessionController} (hc : c.session ≠ .watching)
    (hrows : t.rows = (s.left c).rows) (hhold : t.hold = (s.left c).hold) (hsc : t.sc = c) (hquiet : t.mayWait = false)
    (hclaim : t.cq.claim = none) (hmpa : t.mpa = s.mpa) : t.WaitsOver r port :=
  ⟨by rwa [hsc], hquiet, hclaim, fun n => by rw [hhold, left_slots], by rw [hrows, h.left],
    fun u => by rw [hrows]; exact waitsSound_left h.path c u, by rw [hmpa, h.port]⟩

/-! ### The ring is finished (R140) -/

theorem ringFinished_of_watching (h : s.sc.session = .watching) :
    ∃ c a, ringFinished s =
      { s.left { s.sc with session := .stopping, reason := .ringDone } with
        cq := { records := [], lossCount := c, pendingLoss := 0#32, claim := none }
        rw := { s.rw with ringDone := true }, au := a } := by
  unfold ringFinished
  rw [raiseMapped_eq]
  obtain ⟨c, hc⟩ := releaseBoth_lost
    (freeze { discardCounted { s with rw := { s.rw with ringDone := true } } with
      au := (raiseMapped .ringDone 0 (discardCounted { s with rw := { s.rw with ringDone := true } })).au,
      sc := { s.sc with session := .stopping, reason := .ringDone } })
  exact ⟨c, _, (if_pos h).trans hc⟩

/-- The step that finishes the ring, with a new state of the Ring Writer. -/
theorem State.Conflicting.readsAfter_ringFinished (h : s.Conflicting r port) (x : RingWriter) :
    (ringFinished { s with rw := x }).ReadsAfter r := by
  obtain ⟨hm, -, -⟩ := h.sound
  obtain ⟨c, a, heq⟩ := ringFinished_of_watching (s := { s with rw := x }) h.watching
  rw [heq]
  refine readsAfter_of_waitsOver (port := port) ?_ h.wait hm
  exact h.waitsOver (c := { s.sc with session := .stopping, reason := .ringDone }) nofun rfl rfl rfl rfl rfl rfl

/-! ### FAULT (R53) -/

theorem State.WaitsOver.abandonStop (h : s.WaitsOver r port) : (abandonStop s).WaitsOver r port := by
  unfold Machine.abandonStop
  split
  · exact ⟨h.session, h.quiet, h.claim, h.slots, h.row, h.waits, h.port⟩
  · exact h

theorem State.WaitsOver.raise (h : s.WaitsOver r port) (cls : Option (Fin 4)) (k : CauseKind) (i : Nat) :
    (raise cls k i s).WaitsOver r port := by
  rw [raise_eq]
  exact ⟨h.session, h.quiet, h.claim, h.slots, h.row, h.waits, h.port⟩

theorem abandonStop_acceptance (s : State) : (abandonStop s).rqp.acceptance = s.rqp.acceptance := by
  unfold abandonStop
  split <;> rfl

/-- The session has left WATCHING for FAULT, both slots are released, and the queue is discarded. -/
def State.faulted (s : State) : State :=
  discardCounted
    (releaseBoth (fun _ => countLost 1) (freeze { s with sc := { s.sc with session := .fault, reason := .fault } }))

theorem enterFault_of_watching (h : s.sc.session = .watching) :
    enterFault s = raise (some 0) .ringFault 0 (abandonStop (endLosslessWaits s.faulted)) := by
  rw [enterFault, if_pos (by rw [h]; rfl), if_pos h, State.faulted]

theorem faulted_eq (s : State) :
    ∃ c, s.faulted =
      { s.left { s.sc with session := .fault, reason := .fault } with
        cq := { records := [], lossCount := c, pendingLoss := 0#32, claim := none } } := by
  obtain ⟨c, hc⟩ := releaseBoth_lost (freeze { s with sc := { s.sc with session := .fault, reason := .fault } })
  exact ⟨satAdd c s.cq.records.length, by rw [State.faulted, hc]; rfl⟩

theorem faulted_acceptance (s : State) : s.faulted.rqp.acceptance = s.rqp.acceptance := by
  obtain ⟨c, hc⟩ := faulted_eq s
  rw [hc]
  rfl

theorem State.Conflicting.faulted (h : s.Conflicting r port) (x : RingWriter) :
    ({ s with rw := x } : State).faulted.WaitsOver r port := by
  obtain ⟨c, hc⟩ := faulted_eq { s with rw := x }
  rw [hc]
  exact h.waitsOver (c := { s.sc with session := .fault, reason := .fault }) nofun rfl rfl rfl rfl rfl rfl

theorem State.Conflicting.readsAfter_enterFault (h : s.Conflicting r port) (x : RingWriter) :
    (enterFault { s with rw := x }).ReadsAfter r := by
  obtain ⟨hm, -, -⟩ := h.sound
  have hover := h.faulted x
  have hwait := (faulted_acceptance { s with rw := x }).trans h.wait
  rw [enterFault_of_watching (s := { s with rw := x }) h.watching,
    endLosslessWaits_of_rows hover.quiet (by rw [hwait]; rfl)]
  have hlost := hover.waitsLost allTags
  have hwait' := (waitsLost_acceptance allTags ({ s with rw := x } : State).faulted).trans hwait
  generalize ({ s with rw := x } : State).faulted.waitsLost allTags = t at hlost hwait' ⊢
  refine readsAfter_of_waitsOver (hlost.abandonStop.raise (some 0) .ringFault 0) ?_ hm
  rw [raise_eq]
  exact (abandonStop_acceptance t).trans hwait'

end Sys2Proof.Machine
end

section
/-! RELEASE, HOLD_TIMEOUT, STOP and the FAULT of a ring burst, with a request in the CONFLICT wait, and a RELEASE of a
transaction that owes no record (R88 to R90, R96): obligation O33. -/

namespace Sys2Proof.Machine

variable {s t : State} {r : Request} {port : Downstream} {n : Fin 2} {p : Parked}

/-! ### FAULT, but for what the Request Port has in hand -/

theorem endLosslessWaits_unhanded (h : s.rqp.acceptance.heldTag = none) :
    endLosslessWaits s.unhanded = (endLosslessWaits s).unhanded := by
  cases hmay : s.mayWait with
  | true => rw [endLosslessWaits, endLosslessWaits, if_pos (show s.unhanded.mayWait = true from hmay), if_pos hmay]
  | false =>
    rw [endLosslessWaits_of_rows hmay h, endLosslessWaits_of_rows (s := s.unhanded) hmay rfl, waitsLost_unhanded]

theorem faulted_unhanded (s : State) : s.unhanded.faulted = s.faulted.unhanded :=
  congrArg discardCounted (releaseBoth_masked (a := fun _ => .idle) (g := id) maskedMake_countLost
    (freeze { s with sc := { s.sc with session := .fault, reason := .fault } }))

theorem enterFault_unhanded (hw : s.sc.session = .watching) (h : s.rqp.acceptance.heldTag = none) :
    enterFault s.unhanded = (enterFault s).unhanded := by
  have habandon : ∀ u : State, abandonStop u.unhanded = (abandonStop u).unhanded := fun u => by
    unfold abandonStop
    exact ite_masked (a := fun _ => .idle) (g := id) rfl rfl
  rw [enterFault_of_watching hw, enterFault_of_watching (s := s.unhanded) hw, faulted_unhanded,
    endLosslessWaits_unhanded (by rw [faulted_acceptance, h]), habandon]
  exact raise_masked (a := fun _ => .idle) (g := id) ..

/-! ### A ring response while a request is in the CONFLICT wait (R142, R144, R147) -/

/-- The Ring Writer takes the head record, if any, with a new state of its own or the end of the ring. -/
theorem takeHead_cases (s : State) :
    (∃ x, x.ringDone = s.rw.ringDone ∧ takeHead s = { s with rw := x }) ∨ takeHead s = ringFinished s := by
  have hself : ∃ x, x.ringDone = s.rw.ringDone ∧ s = { s with rw := x } := ⟨s.rw, rfl, rfl⟩
  unfold takeHead
  split
  case isFalse => exact .inl hself
  case isTrue =>
    cases hq : s.cq.records with
    | nil => exact .inl (by rwa [formPlacement_of_empty hq])
    | cons h rest =>
      cases hc : s.rw.choose h with
      | write p =>
        exact .inl ⟨{ s.rw with writer := .writing, written := 0, placement := some p }, rfl,
          formPlacement_of_write hq hc⟩
      | waitSpace => exact .inl ⟨{ s.rw with writer := .waitSpace }, rfl, formPlacement_of_waitSpace hq hc⟩
      | finished => exact .inr (formPlacement_of_finished hq hc)

/-- A new state of the Ring Writer, RING_DONE as it was, leaves the request waiting. -/
theorem State.Conflicting.withRing (h : s.Conflicting r port) {x : RingWriter} (hx : x.ringDone = s.rw.ringDone) :
    ({ s with rw := x } : State).Conflicting r port := by
  obtain ⟨hstands, hresp, -, -⟩ := h.rest
  refine ⟨h.wait, ⟨?_, ?_, fun hs => absurd (h.watching.symm.trans hs) (by decide), noGrant_of_issuing h.port⟩, h.path,
    h.port⟩
  · rw [State.waitStands, h.wait] at hstands
    rw [State.waitStands, h.wait]
    exact hstands
  · refine hresp.imp (fun hmay => ?_) id
    rw [State.mayWait] at hmay ⊢
    rwa [hx]

theorem State.Conflicting.readsAfter_takeHead (h : s.Conflicting r port) {x : RingWriter}
    (hx : x.ringDone = s.rw.ringDone) : (takeHead { s with rw := x }).ReadsAfter r := by
  obtain ⟨y, hy, heq⟩ | heq := takeHead_cases { s with rw := x }
  · rw [heq]
    exact (h.withRing (hy.trans hx)).readsAfter
  · rw [heq]
    exact h.readsAfter_ringFinished x

theorem ringResponse_of_none (h : s.rw.outstanding = none) (status : RespStatus) : ringResponse status s = s := by
  simp only [ringResponse, h]

theorem ringResponse_of_error {b : Burst} (h : s.rw.outstanding = some b) (hw : s.rw.writer = .writing) :
    ringResponse .error s = finish (burstFailed s) := by
  simp only [ringResponse, h, hw]

/-- The burst belongs to no placement any longer (R147). -/
theorem ringResponse_of_over {b : Burst} (h : s.rw.outstanding = some b) (hw : s.rw.writer ≠ .writing)
    (status : RespStatus) :
    ringResponse status s = finish (takeHead { s with rw := { s.rw with outstanding := none, writer := .idle } }) := by
  cases hwriter : s.rw.writer with
  | writing => exact absurd hwriter hw
  | idle | abandoning | waitSpace => simp only [ringResponse, h, hwriter]

theorem burstFailed_unhanded (hw : s.sc.session = .watching) (h : s.rqp.acceptance.heldTag = none) :
    burstFailed s.unhanded = (burstFailed s).unhanded :=
  enterFault_unhanded
    (s := { s with rw := { s.rw with outstanding := none, writer := .idle, written := 0, placement := none } }) hw h

/-- A ring response with an error: the placement fails and the session enters FAULT, or a burst that no longer matters
is over, or no burst is outstanding. -/
theorem State.Conflicting.ringResponse (h : s.Conflicting r port) :
    ∃ u : State, u.ReadsAfter r ∧ ringResponse .error s = Machine.finish u ∧
      ringResponse .error s.unhanded = Machine.finish u.unhanded := by
  cases hout : s.rw.outstanding with
  | none =>
    refine ⟨s, h.readsAfter, ?_, ?_⟩
    · rw [ringResponse_of_none hout, h.finish]
    · rw [ringResponse_of_none (s := s.unhanded) hout, h.unhanded]
  | some b =>
    by_cases hw : s.rw.writer = .writing
    · refine ⟨burstFailed s, h.readsAfter_enterFault _, ringResponse_of_error hout hw, ?_⟩
      rw [← burstFailed_unhanded h.watching (by rw [h.wait]; rfl)]
      exact ringResponse_of_error (s := s.unhanded) hout hw
    · refine ⟨takeHead { s with rw := { s.rw with outstanding := none, writer := .idle } }, h.readsAfter_takeHead rfl,
        ringResponse_of_over hout hw _, (ringResponse_of_over (s := s.unhanded) hout hw _).trans ?_⟩
      exact congrArg Machine.finish (takeHead_masked (a := fun _ => .idle) (g := id)
        { s with rw := { s.rw with outstanding := none, writer := .idle } })

theorem masked_id (s : State) : s.masked id id = s := rfl

theorem masked_answered (s : State) (n : Nat) (bytes : List Byte) :
    s.masked id (fun _ => { frame := .answering, byteCount := 1 + n, answer := bytes }) = s.answered n bytes := rfl

/-! ### Commands and events that let a request in the CONFLICT wait go on (R96) -/

/-- What a command does with the request in the CONFLICT wait and without it: the request goes on, or waits, as one that
is read when the step is over, and the Management Port answers the same. -/
def State.GoesOn (s : State) (r : Request) (c : Instr) : Prop :=
  ∃ (u : State) (g : ManagementPort → ManagementPort), u.ReadsAfter r ∧
    exec c s = .next ((finish u).masked id g) ∧ exec c s.unhanded = .next ((finish u.unhanded).masked id g)

/-- The request is read again by a REQUEST that presents none (assumption 4). -/
theorem State.GoesOn.exec {c : Instr} (h : s.GoesOn r c) (hc : movesLines c = false) (hreset : s.lines.reset = false)
    (hprst : s.lines.prst = false) (ht : exec c s.unhanded = .next t) :
    exec c s = exec (.request none) { t with rqp := { t.rqp with presented := r :: t.rqp.presented } } := by
  obtain ⟨u, g, hread, htaken, hidle⟩ := h
  have hend : ((finish u).masked id g).lines = s.lines := exec_lines hc htaken
  have hlines : u.lines = s.lines := (finish_lines u).symm.trans hend
  have heq : (finish u.unhanded).masked id g = t := Host.Outcome.next.inj (hidle.symm.trans ht)
  rw [htaken, hread.exec_request g (by rw [hlines]; exact hreset) (by rw [hlines]; exact hprst) heq]

/-- What a command makes of the block, and its answer, with the request in the CONFLICT wait and without it. -/
def State.Answers (s : State) (r : Request) (act : State → State × List Byte) : Prop :=
  ∃ (u : State) (bytes : List Byte), u.ReadsAfter r ∧ act s = (finish u, bytes) ∧
    act s.unhanded = (finish u.unhanded, bytes)

theorem State.Conflicting.refused (h : s.Conflicting r port) {act : State → State × List Byte} {bytes : List Byte}
    (hact : act s = (s, bytes)) (hidle : act s.unhanded = (s.unhanded, bytes)) : s.Answers r act :=
  ⟨s, bytes, h.readsAfter, by rw [h.finish, hact], by rw [h.unhanded, hidle]⟩

theorem State.Conflicting.releaseAnswers (h : s.Conflicting r port) (hb : s.rw.writer ≠ .idle)
    (slot ticket code count : Byte) (words : List Word) : s.Answers r (release slot ticket code count words) := by
  by_cases hcount : 8 < count.toNat
  · exact h.refused (if_pos hcount) (if_pos hcount)
  · rw [Nat.not_lt] at hcount
    by_cases hnamed : 1 < slot.toNat ∨ 4 < code.toNat
    · exact h.refused (release_of_unnamed hcount hnamed) (release_of_unnamed hcount hnamed)
    · obtain ⟨hslot, hcode⟩ := not_or.1 hnamed
      obtain ⟨d, hd, -, -⟩ := releaseDispositionOf_of_small (Nat.not_lt.1 hcode)
      obtain ⟨n, hn⟩ : ∃ n : Fin 2, slot.toNat = n.val := ⟨⟨slot.toNat, by omega⟩, rfl⟩
      have hchecked : ∀ u : State, release slot ticket code count words u =
          releaseChecked n ticket d count.toNat words u := fun u => release_of_named hcount hn hd
      cases hp : s.hold.slots[n] with
      | none =>
        refine h.refused ((hchecked _).trans (releaseChecked_of_free hp)) ((hchecked _).trans ?_)
        exact releaseChecked_of_free (s := s.unhanded) hp
      | some p =>
        by_cases ht : p.ticket = ticket
        case neg =>
          refine h.refused ((hchecked _).trans (releaseChecked_of_stale hp ht)) ((hchecked _).trans ?_)
          exact releaseChecked_of_stale (s := s.unhanded) hp ht
        cases hs : suits d p.kind with
        | false =>
          refine h.refused ((hchecked _).trans (releaseChecked_of_illegal hp ht hs)) ((hchecked _).trans ?_)
          exact releaseChecked_of_illegal (s := s.unhanded) hp ht hs
        | true =>
          by_cases hw : count.toNat = wordsWanted d p.beats
          case neg =>
            refine h.refused ((hchecked _).trans (releaseChecked_of_badarg hp ht hs hw)) ((hchecked _).trans ?_)
            exact releaseChecked_of_badarg (s := s.unhanded) hp ht hs hw
          refine ⟨releaseSlot (makeHit false) n d words s, _, h.readsAfter_releaseSlot hb n d words,
            (hchecked _).trans (releaseChecked_of_taken hp ht hs hw), ?_⟩
          have hmasked : releaseSlot (makeHit false) n d words s.unhanded =
              (releaseSlot (makeHit false) n d words s).unhanded :=
            releaseSlot_masked (a := fun _ => .idle) (g := id) (makeHit_masked false) n d words s
          rw [← hmasked]
          exact (hchecked _).trans (releaseChecked_of_taken (s := s.unhanded) hp ht hs hw)

theorem State.Conflicting.stopAnswers (h : s.Conflicting r port) (hb : s.rw.writer ≠ .idle) : s.Answers r stop := by
  refine ⟨stopRequest .command s, _, h.readsAfter_stop hb .command, stop_of_taken h.watching, ?_⟩
  have hmasked : stopRequest .command s.unhanded = (stopRequest .command s).unhanded :=
    stopRequest_masked (a := fun _ => .idle) (g := id) .command s
  rw [← hmasked]
  exact stop_of_taken (s := s.unhanded) h.watching

/-- A command of the Management Port, taken in a frame that receives and ignored in another. -/
theorem State.Conflicting.goesOn_of_answers (h : s.Conflicting r port) {c : Instr} {k : Nat}
    {act : State → State × List Byte} (hc : ∀ u, Machine.exec c u = .next (takeCommand k act u))
    (hact : s.Answers r act) : s.GoesOn r c := by
  by_cases hf : s.mgp.frame = .receiving
  · obtain ⟨u, bytes, hread, htaken, hidle⟩ := hact
    refine ⟨u, fun _ => { frame := .answering, byteCount := 1 + k, answer := bytes }, hread, ?_, ?_⟩
    · rw [hc, takeCommand_of_receiving hf, htaken, masked_answered]
    · rw [hc, takeCommand_of_receiving (s := s.unhanded) hf, hidle, masked_answered]
  · refine ⟨s, id, h.readsAfter, ?_, ?_⟩
    · rw [hc, h.finish, takeCommand, if_neg hf, masked_id]
    · rw [hc, h.unhanded, takeCommand, if_neg (show ¬ s.unhanded.mgp.frame = .receiving from hf), masked_id]

theorem State.Conflicting.goesOn_release (h : s.Conflicting r port) (hb : s.rw.writer ≠ .idle)
    (slot ticket code count : Byte) (words : List Word) : s.GoesOn r (.release slot ticket code count words) := by
  by_cases hlen : count.toNat ≤ 8 ∧ words.length ≠ count.toNat
  · have hskip : ∀ u, Machine.exec (.release slot ticket code count words) u = .next u := fun u => by
      rw [exec_release, execRelease, if_pos hlen]
    exact ⟨s, id, h.readsAfter, by rw [hskip, h.finish, masked_id], by rw [hskip, h.unhanded, masked_id]⟩
  · exact h.goesOn_of_answers (k := releaseArgs count) (fun u => by rw [exec_release, execRelease, if_neg hlen])
      (h.releaseAnswers hb slot ticket code count words)

theorem State.Conflicting.goesOn_stop (h : s.Conflicting r port) (hb : s.rw.writer ≠ .idle) : s.GoesOn r .stop :=
  h.goesOn_of_answers exec_stop (h.stopAnswers hb)

theorem State.Conflicting.goesOn_holdTimeout (h : s.Conflicting r port) (hb : s.rw.writer ≠ .idle) (n : Fin 2) :
    s.GoesOn r (.holdTimeout n) := by
  cases hdue : s.holdDue n with
  | false =>
    refine ⟨s, id, h.readsAfter, ?_, ?_⟩
    · rw [exec_holdTimeout, holdExpire_of_not_due hdue, h.finish, masked_id]
    · rw [exec_holdTimeout, holdExpire_of_not_due (s := s.unhanded) hdue, h.unhanded, masked_id]
  | true =>
    have hmasked : releaseSlot (makeHit false) n (timeoutDisposition s.hold) [] s.unhanded =
        (releaseSlot (makeHit false) n (timeoutDisposition s.hold) [] s).unhanded :=
      releaseSlot_masked (a := fun _ => .idle) (g := id) (makeHit_masked false) n _ [] s
    have hraise : ∀ u : State, raise s.hold.holdClass .holdTimeout n.val u.unhanded =
        (raise s.hold.holdClass .holdTimeout n.val u).unhanded :=
      fun u => raise_masked (a := fun _ => .idle) (g := id) ..
    have hidle := holdExpire_of_due (s := s.unhanded) hdue
    have hsame : s.unhanded.hold = s.hold := rfl
    rw [hsame, hmasked, hraise] at hidle
    have hread := h.readsAfter_timeout hb n (timeoutDisposition s.hold) [] s.hold.holdClass .holdTimeout n.val
    refine ⟨_, id, hread, ?_, ?_⟩
    · rw [exec_holdTimeout, holdExpire_of_due hdue, masked_id]
    · rw [exec_holdTimeout, hidle, masked_id]

theorem State.Conflicting.goesOn_ringError (h : s.Conflicting r port) :
    s.GoesOn r (.memoryResponse { marker := .ring, tag := 0, status := .error, data := [] }) := by
  obtain ⟨u, hread, htaken, hidle⟩ := h.ringResponse
  have hring : ∀ v, Machine.exec (.memoryResponse { marker := .ring, tag := 0, status := .error, data := [] }) v =
      .next (Machine.ringResponse .error v) := fun _ => rfl
  exact ⟨u, id, hread, by rw [hring, htaken, masked_id], by rw [hring, hidle, masked_id]⟩

end Sys2Proof.Machine
end

section
/-! The two parts of obligation O33 together: a request that goes on, and a RELEASE that makes no record. -/

namespace Sys2Proof.Proofs.BlockingAndHolding

open Sys2Proof.Machine

/-- Settles O33, by the command that lets the request go on, and by the code of the RELEASE. -/
theorem releaseCarriedOut : Obligations.ReleaseCarriedOut := by
  refine ⟨fun n slot ticket code count words c r d s t hc hwait hrest hsound hreset hprst hb hport ht => ?conflict,
    fun n p slot ticket code count words d s t hf hslot hp hticket hcount hlen howed hkind hbuf hstate hidle hrest hport
      ht => ⟨fun hcode hzero => ?forward, fun hcode hwrite hbeats => ?replace, fun status data hcode => ?answer⟩⟩
  case conflict =>
    have h : s.Conflicting r d := ⟨hwait, hrest, hsound, hport⟩
    simp only [List.mem_cons, List.not_mem_nil, or_false] at hc
    obtain rfl | rfl | rfl | rfl := hc
    · exact (h.goesOn_release hb slot ticket code count words).exec rfl hreset hprst ht
    · exact (h.goesOn_holdTimeout hb n).exec rfl hreset hprst ht
    · exact (h.goesOn_stop hb).exec rfl hreset hprst ht
    · exact h.goesOn_ringError.exec rfl hreset hprst ht
  case forward =>
    subst hcode hzero ht
    rw [exec_release_of_taken (d := .relForward) hf hslot hp hticket hcount hlen rfl (by cases p.kind <;> rfl) rfl,
      finish_releaseSlot_of_forward _ hrest hidle hport hp rfl howed]
    rfl
  case replace =>
    subst hcode ht
    rw [exec_release_of_taken (d := .relReplace) hf hslot hp hticket hcount hlen rfl (by rw [hwrite]; rfl) hbeats,
      finish_releaseSlot_of_forward _ hrest hidle hport hp rfl howed]
    rfl
  case answer =>
    subst ht
    have hanswer : ∃ e, releaseDispositionOf code = some e ∧ suits e p.kind = true ∧
        count.toNat = wordsWanted e p.beats ∧ e.answers = true ∧ e.answerStatus = status ∧
        responseData (answerFields e words s.rows[p.tag]) status = data := by
      obtain ⟨rfl, rfl, rfl, rfl⟩ | ⟨rfl, hwrite, rfl, rfl, rfl⟩ | ⟨rfl, hread, hbeats, rfl, rfl⟩ := hcode
      · exact ⟨.relFail, rfl, by cases p.kind <;> rfl, rfl, rfl, rfl, responseData_error _⟩
      · exact ⟨.relAbsorb, rfl, by rw [hwrite]; rfl, rfl, rfl, rfl,
          responseData_of_write (r := answerFields _ _ _) (hkind.trans hwrite) _⟩
      · exact ⟨.relSupply, rfl, by rw [hread]; rfl, hbeats, rfl, rfl,
          responseData_of_read (r := answerFields _ _ _) (hkind.trans hread)⟩
    obtain ⟨e, hcode, hsuits, hwords, hanswers, hstatus, hdata⟩ := hanswer
    rw [exec_release_of_taken hf hslot hp hticket hcount hlen hcode hsuits hwords,
      finish_releaseSlot_of_answer _ hrest hidle hport hp hanswers howed, hstatus, hdata]
    rfl

end Sys2Proof.Proofs.BlockingAndHolding
end

section
/-! A request taken in WATCHING whose hits owe no record: its match, its decision, and the end of its step (R8 to R20,
R34, R80, R84 to R86): obligation O40. -/

namespace Sys2Proof.Machine

variable {s t x : State} {r : Request} {port : Downstream} {tag : Fin 8} {q : Row}

/-! ### The taking of the request (R7, R12, R33) -/

theorem modifyRow_row (tag : Fin 8) (f : Row → Row) (s : State) : (modifyRow tag f s).rows[tag] = f s.rows[tag] :=
  modifyRow_same s tag f

/-- The row of a request matched at its taking, its hits owing no record, in the state `st`. -/
def plainRow (s : State) (r : Request) (st : RowState) : Row :=
  { Row.empty with
    state := st, kind := r.kind, address := r.address, size := requestSize r, beats := r.beats,
    writeData := if r.kind = .write then r.data else [], arrivalLevel := s.sc.level, takingTime := s.tb.ticks,
    early := earlySet s.entries r s.sc.level, late := candidateSet s.entries r s.sc.level,
    hits := earlySet s.entries r s.sc.level }

theorem matchedRow_of_no_debt (h : owesRecord s.entries (earlySet s.entries r s.sc.level) = false) :
    matchedRow s r = plainRow s r .deciding := by
  have hcapture : ∀ n : Fin 16, (earlySet s.entries r s.sc.level).getLsbD n.val = true →
      s.entries[n].capture = false := by
    intro n hn
    rw [← Bool.not_eq_true]
    exact fun hc => absurd (owesRecord_iff.2 ⟨n, hn, hc⟩) (by rw [h]; decide)
  have hlossless : wantsLossless s.entries (earlySet s.entries r s.sc.level) = false := by
    rw [← Bool.not_eq_true, wantsLossless_iff]
    rintro ⟨n, hn, hc, -⟩
    rw [hcapture n hn] at hc
    cases hc
  have hdata : takenRow s r = { takenRow s r with writeData := if r.kind = .write then r.data else [] } := by
    cases hk : r.kind <;> simp [takenRow, hk]
  rw [matchedRow, mergedOption_of_no_capture hcapture, h, hlossless, hdata]
  rfl

/-- A request that meets no gate, presented in WATCHING with the port busy, whose hits owe no record. -/
structure State.TakesPlain (s : State) (r : Request) (port : Downstream) : Prop where
  ready    : s.readyFor
  watching : s.sc.session = .watching
  row      : s.rows[r.tag] = Row.empty
  legal    : malformed r = false
  free     : s.covered r.address = false
  port     : s.mpa.port = .issuing port
  debtless : owesRecord s.entries (earlySet s.entries r s.sc.level) = false

theorem State.TakesPlain.idle (h : s.TakesPlain r port) : s.rqp.acceptance = .idle := by
  obtain ⟨hread, -⟩ := h.ready
  exact acceptance_of_mayRead hread

theorem State.TakesPlain.claim (h : s.TakesPlain r port) : s.cq.claim = none := by
  obtain ⟨-, -, hclaim, -⟩ := h.ready
  exact hclaim

/-- The state at the decision: the totals are counted, the causes raised and the row is DECIDING. -/
def State.matched (s : State) (r : Request) : State :=
  s.withHits (earlySet s.entries r s.sc.level) r.tag (plainRow s r .deciding)

/-- The request is taken and decided. -/
theorem State.TakesPlain.exec (h : s.TakesPlain r port) {e : BitVec 16} (he : e = earlySet s.entries r s.sc.level) :
    exec (.request (some r)) s =
      .next (finish (releasePort (requestStop (stopOf s.entries e) (carryOut r.tag (verdictOf s.entries e)
        (notify r.tag (linksOf s.entries e) (requestLevel (levelOf s.entries e) (s.matched r))))))) := by
  subst he
  have howed : (modifyRow r.tag (fun _ => matchedRow s r) s).rows[r.tag].owed = false := by
    rw [modifyRow_row, matchedRow_of_no_debt h.debtless]
    rfl
  rw [exec_request_of_readyFor r h.ready,
    readRequest_of_free h.idle (by rw [h.row]; rfl) h.legal h.free, takeRequest,
    if_pos h.watching, losslessGate_of_no_debt howed, decideRequest, handOn]
  have hhits := raiseHits_countHits_modifyRow (s := s) (earlySet s.entries r s.sc.level) r.tag fun _ => matchedRow s r
  rw [matchedRow_of_no_debt h.debtless] at hhits ⊢
  exact congrArg (fun u =>
    Host.Outcome.next (finish (releasePort (requestStop _ (carryOut _ _ (notify _ _ (requestLevel _ u))))))) hhits

theorem releasePort_of_free (hidle : s.rqp.acceptance = .idle) (hclaim : s.cq.claim = none) : releasePort s = s := by
  rw [releasePort, ← hidle, ← hclaim]

/-! ### The decision of a row without a debt (R34, R80, R81, R84, R85) -/

theorem decideForward_of_no_debt (h : s.rows[tag].owed = false) (d : Disposition) (refused : Bool) :
    decideForward tag d refused s = s.withQueued tag { s.rows[tag] with carry := d, holdRefused := refused } := by
  have hrow : (modifyRow tag (fun r => { r with carry := d, holdRefused := refused }) s).rows[tag].owed = false := by
    rw [modifyRow_row]
    exact h
  rw [decideForward, writeRecord, hrow, Bool.false_and, if_neg Bool.false_ne_true, queueForward_modifyRow]

/-- A read answered OKAY brings words of zeros, and any other response none (R80). -/
theorem responseData_blocked {r : Row} {status : RespStatus}
    (h : r.readBuf = if r.kind = .read ∧ status = .okay then List.replicate r.beats 0#32 else []) :
    responseData r status = if r.kind = .read ∧ status = .okay then List.replicate r.beats 0#32 else [] := by
  cases hk : r.kind with
  | write => rw [responseData_of_write hk, if_neg nofun]
  | read =>
    cases status with
    | error => rw [responseData_error, if_neg nofun]
    | okay => rw [responseData_of_read hk, h, hk]

theorem decideBlock_of_no_debt (h : s.rows[tag].owed = false) (status : RespStatus) :
    decideBlock tag status s =
      { s with
        rows := s.rows.set tag Row.empty
        rqp := { s.rqp with ready := s.rqp.ready ++
          [{ status := status, tag := tag,
             data :=
               if s.rows[tag].kind = .read ∧ status = .okay then List.replicate s.rows[tag].beats 0#32 else [] }] } } := by
  obtain ⟨f, hf⟩ : ∃ f : Row → Row, f = fun r => { r with
    late := 0#16
    readBuf := if r.kind = .read ∧ status = .okay then List.replicate r.beats 0#32 else [] } := ⟨_, rfl⟩
  have howed : (modifyRow tag f s).rows[tag].owed = false := by
    rw [modifyRow_row, hf]
    exact h
  have hdata : responseData (modifyRow tag f s).rows[tag] status =
      if s.rows[tag].kind = .read ∧ status = .okay then List.replicate s.rows[tag].beats 0#32 else [] := by
    rw [modifyRow_row, hf]
    exact responseData_blocked rfl
  rw [decideBlock, ← hf, howed, if_neg Bool.false_ne_true, deliverRow_eq, hdata]
  simp [modifyRow]

end Sys2Proof.Machine
end

section
/-! The dispositions of a request whose hits ask for nothing but totals and causes: FORWARD, BLOCK and HOLD, with a FREE
slot and without one (R16, R34, R80, R84, R85): the first part of obligation O40. -/

namespace Sys2Proof.Machine

variable {s t x : State} {r : Request} {port : Downstream} {tag : Fin 8} {q : Row} {e : BitVec 16} {n k : Fin 2}

/-! ### The end of the step of a decision in WATCHING -/

/-- A state of the units that the end of a step asks about as before, but for one row that owes no record. -/
theorem State.TakesPlain.finish (h : s.TakesPlain r port) (hport : x.rqp.acceptance = .idle) (hcq : x.cq = s.cq)
    (hsc : x.sc = s.sc) (hring : x.rw = s.rw) (hmpa : x.mpa = s.mpa) (hrows : x.rows = s.rows.set r.tag q)
    (howed : q.owed = false) (hq : q.state ≠ .responding) : finish (releasePort x) = x := by
  obtain ⟨-, -, -, hstands, hresp, hstop, -⟩ := h.ready
  rw [releasePort_of_free hport (by rw [hcq, h.claim])]
  refine finish_of_rest (settled_of_row ⟨hstands, hresp, hstop⟩ hport hsc hring (by rw [hcq]) hrows ?_ hq)
    (noGrant_of_issuing (by rw [hmpa]; exact h.port))
  rw [howed, h.row]
  rfl

/-! ### The state at the decision -/

/-- The totals and the causes of a hit set change the totals and the Alert Unit alone. -/
theorem raiseHits_countHits (e : BitVec 16) (s : State) :
    raiseHits (alertsOf s.entries e) (countHits e s) =
      { s with totals := (countHits e s).totals, au := (raiseHits (alertsOf s.entries e) s).au } := by
  rw [raiseHits_eq, raiseHits_au_congr (t := countHits e s) (s := s) _ rfl]
  rfl

theorem matched_row (s : State) (r : Request) : (s.matched r).rows[r.tag] = plainRow s r .deciding := withHits_row ..

/-- The row of the request, written again. -/
theorem matched_setRow (s : State) (r : Request) (q : Row) :
    { s.matched r with rows := (s.matched r).rows.set r.tag q } =
      s.withHits (earlySet s.entries r s.sc.level) r.tag q := by
  simp [State.matched, State.withHits]

/-- Hits that ask for nothing beyond totals, causes and a disposition leave the decision to it. -/
theorem State.TakesPlain.exec_of_plainHits (h : s.TakesPlain r port) (he : e = earlySet s.entries r s.sc.level)
    (hplain : plainHits s.entries e) :
    Machine.exec (.request (some r)) s =
      .next (Machine.finish (releasePort (carryOut r.tag (verdictOf s.entries e) (s.matched r)))) := by
  obtain ⟨hlinks, hlevel, hstop, -⟩ := hplain
  rw [h.exec he, hlinks, hlevel, hstop, requestLevel_none, notify_none, requestStop_none]

/-! ### Forward and block -/

theorem decideForward_matched (s : State) (r : Request) (d : Disposition) (refused : Bool) :
    decideForward r.tag d refused (s.matched r) =
      { s.withHits (earlySet s.entries r s.sc.level) r.tag
          { plainRow s r .queued with carry := d, holdRefused := refused } with fq := s.fq ++ [r.tag] } := by
  rw [decideForward_of_no_debt (by rw [matched_row]; rfl), matched_row, State.withQueued]
  exact congrArg (fun v : State => { v with fq := s.fq ++ [r.tag] })
    (matched_setRow s r { plainRow s r .queued with carry := d, holdRefused := refused })

/-- FORWARDED is what an EMPTY row carries (R28). -/
theorem decideForward_matched_forwarded (s : State) (r : Request) (refused : Bool) :
    decideForward r.tag .forwarded refused (s.matched r) =
      { s.withHits (earlySet s.entries r s.sc.level) r.tag { plainRow s r .queued with holdRefused := refused } with
        fq := s.fq ++ [r.tag] } := decideForward_matched s r .forwarded refused

/-- The response to a request that is blocked (R80, R81). -/
def blockedResponse (r : Request) (status : RespStatus) : Response :=
  { status := status, tag := r.tag,
    data := if r.kind = .read ∧ status = .okay then List.replicate r.beats 0#32 else [] }

theorem decideBlock_matched (s : State) (r : Request) (status : RespStatus) :
    decideBlock r.tag status (s.matched r) =
      { s.withHits (earlySet s.entries r s.sc.level) r.tag Row.empty with
        rqp := { s.rqp with ready := s.rqp.ready ++ [blockedResponse r status] } } := by
  rw [decideBlock_of_no_debt (by rw [matched_row]; rfl), matched_row]
  exact congrArg (fun v : State => { v with rqp := { s.rqp with ready := s.rqp.ready ++ [blockedResponse r status] } })
    (matched_setRow s r Row.empty)

/-! ### Hold (R83, R84, R85) -/

theorem nextTicket_eq (x : HoldUnit) (k : Fin 2) :
    nextTicket x k =
      if x.slots[1 - k].map (·.ticket) = some (x.ticket + 1#8) then x.ticket + 2#8 else x.ticket + 1#8 := by
  have htwo : x.ticket + 1#8 + 1#8 = x.ticket + 2#8 := by bv_omega
  cases hp : x.slots[1 - k] with
  | none => simp [nextTicket, hp]
  | some p => simp [nextTicket, hp, htwo]

/-- The lowest-numbered FREE slot. -/
theorem freeSlot_of_lowest {x : HoldUnit} (hbelow : ∀ j < k, x.slots[j] ≠ none) (hk : x.slots[k] = none) :
    x.freeSlot = some k := by
  obtain rfl | rfl := slot_cases 0 k
  · exact if_pos (Option.isNone_iff_eq_none.2 hk)
  · have h0 : ¬ x.slots[0].isNone = true := fun h => hbelow 0 (by decide) (Option.isNone_iff_eq_none.1 h)
    exact (if_neg h0).trans (if_pos (Option.isNone_iff_eq_none.2 hk))

theorem freeSlot_of_full {x : HoldUnit} (h : ∀ k : Fin 2, x.slots[k] ≠ none) : x.freeSlot = none := by
  have hfull : ∀ k : Fin 2, ¬ x.slots[k].isNone = true := fun k hk => h k (Option.isNone_iff_eq_none.1 hk)
  exact (if_neg (hfull 0)).trans (if_neg (hfull 1))

/-- What a slot keeps of a request that is parked now (R82, R83). -/
def parkedNow (s : State) (r : Request) (ticket : Byte) : Parked :=
  { tag := r.tag, ticket := ticket, parkTime := s.tb.ticks, kind := r.kind, address := r.address,
    size := requestSize r, beats := r.beats, writeData := if r.kind = .write then r.data else [] }

/-- The request is in slot `k`, and its row PARKED (R84). -/
def State.parkedIn (s : State) (r : Request) (k : Fin 2) : State :=
  { s.withHits (earlySet s.entries r s.sc.level) r.tag (plainRow s r .parked) with
    hold := { s.hold with
      slots := s.hold.slots.set k (some (parkedNow s r (nextTicket s.hold k))), ticket := nextTicket s.hold k } }

theorem park_matched (s : State) (r : Request) (k : Fin 2) :
    park r.tag k (s.matched r) = raise s.hold.holdClass .parked k.val (s.parkedIn r k) := by
  have hpark : park r.tag k (s.matched r) = raise s.hold.holdClass .parked k.val
      { s.matched r with
        rows := (s.matched r).rows.set r.tag { (s.matched r).rows[r.tag] with state := .parked }
        hold := { s.hold with
          slots := s.hold.slots.set k (some
            { tag := r.tag, ticket := nextTicket s.hold k, parkTime := s.tb.ticks, kind := (s.matched r).rows[r.tag].kind,
              address := (s.matched r).rows[r.tag].address, size := (s.matched r).rows[r.tag].size,
              beats := (s.matched r).rows[r.tag].beats, writeData := (s.matched r).rows[r.tag].writeData })
          ticket := nextTicket s.hold k } } := rfl
  rw [hpark, matched_row]
  exact congrArg (fun v : State => raise s.hold.holdClass .parked k.val
    { v with hold := { s.hold with
      slots := s.hold.slots.set k (some (parkedNow s r (nextTicket s.hold k))), ticket := nextTicket s.hold k } })
    (matched_setRow s r (plainRow s r .parked))

/-- A HOLD attempt in WATCHING that finds a FREE slot parks the request. -/
theorem decideHold_matched (hw : s.sc.session = .watching) (hfree : s.hold.freeSlot = some k) (m : Fin 16) :
    decideHold r.tag m (s.matched r) = raise s.hold.holdClass .parked k.val (s.parkedIn r k) := by
  have hfree' : (s.matched r).hold.freeSlot = some k := hfree
  rw [decideHold, if_pos (show (s.matched r).sc.session = .watching from hw), hfree', ← park_matched]

/-! ### What the request's step leaves, by its disposition -/

theorem State.TakesPlain.exec_forward (h : s.TakesPlain r port) (he : e = earlySet s.entries r s.sc.level)
    (hplain : plainHits s.entries e) (hverdict : verdictOf s.entries e = .forward) :
    Machine.exec (.request (some r)) s =
      .next { s.withHits e r.tag (plainRow s r .queued) with fq := s.fq ++ [r.tag] } := by
  subst he
  rw [h.exec_of_plainHits rfl hplain, hverdict, carryOut, decideForward_matched]
  exact congrArg Host.Outcome.next
    (h.finish (q := plainRow s r .queued) h.idle rfl rfl rfl rfl rfl rfl nofun)

theorem State.TakesPlain.exec_block (h : s.TakesPlain r port) (he : e = earlySet s.entries r s.sc.level)
    (hplain : plainHits s.entries e) {status : RespStatus} (hverdict : verdictOf s.entries e = .block status) :
    Machine.exec (.request (some r)) s =
      .next { s.withHits e r.tag Row.empty with
        rqp := { s.rqp with ready := s.rqp.ready ++ [blockedResponse r status] } } := by
  subst he
  rw [h.exec_of_plainHits rfl hplain, hverdict, carryOut, decideBlock_matched]
  exact congrArg Host.Outcome.next
    (h.finish (q := Row.empty) h.idle rfl rfl rfl rfl rfl rfl nofun)

theorem State.TakesPlain.exec_park (h : s.TakesPlain r port) (he : e = earlySet s.entries r s.sc.level)
    (hplain : plainHits s.entries e) {m : Fin 16} (hverdict : verdictOf s.entries e = .hold m)
    (hfree : s.hold.freeSlot = some k) :
    Machine.exec (.request (some r)) s = .next (raise s.hold.holdClass .parked k.val (s.parkedIn r k)) := by
  rw [h.exec_of_plainHits he hplain, hverdict, carryOut, decideHold_matched h.watching hfree, raise_eq]
  exact congrArg Host.Outcome.next
    (h.finish (q := plainRow s r .parked) h.idle rfl rfl rfl rfl rfl rfl nofun)

theorem State.TakesPlain.exec_refused (h : s.TakesPlain r port) (he : e = earlySet s.entries r s.sc.level)
    (hplain : plainHits s.entries e) {m : Fin 16} (hverdict : verdictOf s.entries e = .hold m)
    (hfull : s.hold.freeSlot = none) :
    Machine.exec (.request (some r)) s =
      .next (raiseMapped .holdRefused m.val
        { s.withHits e r.tag { plainRow s r .queued with holdRefused := true } with fq := s.fq ++ [r.tag] }) := by
  subst he
  have hrefused : decideHold r.tag m (s.matched r) =
      raiseMapped .holdRefused m.val (decideForward r.tag .forwarded true (s.matched r)) := by
    have hfull' : (s.matched r).hold.freeSlot = none := hfull
    rw [decideHold, if_pos (show (s.matched r).sc.session = .watching from h.watching), hfull']
  rw [h.exec_of_plainHits rfl hplain, hverdict, carryOut, hrefused, decideForward_matched_forwarded, raiseMapped_eq]
  exact congrArg Host.Outcome.next
    (h.finish (q := { plainRow s r .queued with holdRefused := true }) h.idle rfl rfl rfl rfl
      rfl rfl nofun)

end Sys2Proof.Machine
end

section
/-! The level, the counter notices and the stop that a request's hits ask for, on the way to its decision (R19, R20, R34,
R57, R73, R77, R78, R86): the second part of obligation O40. -/

namespace Sys2Proof.Machine

variable {s t x : State} {r : Request} {port : Downstream} {tag : Fin 8} {q : Row} {e : BitVec 16}

/-! ### The decision and the end of the step -/

/-- A row that owes no record is forwarded, whatever the actions of the hits have made of the rest. -/
theorem decideForward_of_row {v : Vector Row 8} (hrows : x.rows = v.set tag q) (howed : q.owed = false)
    (d : Disposition) (refused : Bool) :
    decideForward tag d refused x =
      { x with
        rows := v.set tag { q with state := .queued, carry := d, holdRefused := refused }
        fq := x.fq ++ [tag] } := by
  have hrow : x.rows[tag] = q := by
    rw [hrows]
    exact (row_set ..).trans (if_pos rfl)
  rw [decideForward_of_no_debt (by rw [hrow, howed]), hrow, State.withQueued, hrows, Vector.set_set]

theorem finish_releasePort_of_watching (hw : x.sc.session = .watching) (hidle : x.rqp.acceptance = .idle)
    (hclaim : x.cq.claim = none) (hd : x.rw.ringDone = false) (hport : x.mpa.port = .issuing port) :
    finish (releasePort x) = x := by
  rw [releasePort_of_free hidle hclaim, finish_of_watching hw hidle hd hport]

/-! ### A level (R57, R58, R60) -/

/-- The actions of the hits are the level request. -/
theorem State.TakesPlain.exec_level (h : s.TakesPlain r port) (he : e = earlySet s.entries r s.sc.level) {n : Fin 16}
    {v : Fin 4} (hverdict : verdictOf s.entries e = .forward) (hlinks : linksOf s.entries e = 0#4)
    (hstop : stopOf s.entries e = none) (hlevel : levelOf s.entries e = some (n, v)) :
    Machine.exec (.request (some r)) s =
      .next (Machine.finish (releasePort (decideForward r.tag .forwarded false
        (levelRequest v .entry n.val (s.matched r))))) := by
  rw [h.exec he, hverdict, hlinks, hstop, hlevel, notify_none, requestStop_none]
  rfl

theorem State.TakesPlain.exec_level_quiet (h : s.TakesPlain r port) (he : e = earlySet s.entries r s.sc.level)
    {n : Fin 16} {v : Fin 4} (hverdict : verdictOf s.entries e = .forward) (hlinks : linksOf s.entries e = 0#4)
    (hstop : stopOf s.entries e = none) (hlevel : levelOf s.entries e = some (n, v)) (hd : s.rw.ringDone = false)
    (hv : v = s.sc.level ∨ s.sc.levelRecords = false) :
    Machine.exec (.request (some r)) s =
      .next { s.withHits e r.tag (plainRow s r .queued) with
              sc := { s.sc with level := v }, fq := s.fq ++ [r.tag] } := by
  rw [h.exec_level he hverdict hlinks hstop hlevel, levelRequest_of_no_record (s := s.matched r) h.watching hv,
    decideForward_of_row (v := s.rows) (q := plainRow s r .deciding) rfl rfl]
  subst he
  exact congrArg Host.Outcome.next (finish_releasePort_of_watching h.watching h.idle h.claim hd h.port)

/-- The LEVEL record is offered to the queue as it stood: placed or dropped (R57, R122, R123). -/
theorem State.TakesPlain.exec_level_record (h : s.TakesPlain r port) (he : e = earlySet s.entries r s.sc.level)
    {n : Fin 16} {v : Fin 4} (hverdict : verdictOf s.entries e = .forward) (hlinks : linksOf s.entries e = 0#4)
    (hstop : stopOf s.entries e = none) (hlevel : levelOf s.entries e = some (n, v)) (hd : s.rw.ringDone = false)
    (hb : s.rw.writer ≠ .idle) (hv : v ≠ s.sc.level) (hr : s.sc.levelRecords = true) :
    ∃ c b a,
      (if wordsIn (bundle s (.level s.sc.level v .entry n.val)) ≤ s.cq.room false then
         c = { s.cq with
           records := s.cq.records ++ bundle s (.level s.sc.level v .entry n.val), pendingLoss := 0#32 }
       else c = { s.cq with lossCount := satAdd s.cq.lossCount 1, pendingLoss := satAdd s.cq.pendingLoss 1 }) ∧
      Machine.exec (.request (some r)) s =
        .next { s.withHits e r.tag (plainRow s r .queued) with
                sc := { s.sc with level := v }, cq := c, rbl := b, au := a, fq := s.fq ++ [r.tag] } := by
  obtain ⟨y, hy⟩ : ∃ y : State, y = { s.matched r with sc := { s.sc with level := v } } := ⟨_, rfl⟩
  have hoffer : ∃ c b a,
      (if wordsIn (bundle s (.level s.sc.level v .entry n.val)) ≤ s.cq.room false then
         c = { s.cq with
           records := s.cq.records ++ bundle s (.level s.sc.level v .entry n.val), pendingLoss := 0#32 }
       else c = { s.cq with lossCount := satAdd s.cq.lossCount 1, pendingLoss := satAdd s.cq.pendingLoss 1 }) ∧
      offer false (.level s.sc.level v .entry n.val) y = { y with cq := c, rbl := b, au := a } := by
    subst hy
    split
    case isTrue hroom =>
      obtain ⟨hq, heq⟩ := offer_of_room (s := { s.matched r with sc := { s.sc with level := v } }) hd hb hroom
      exact ⟨_, _, _, hq, heq⟩
    case isFalse hroom =>
      obtain ⟨hq, heq⟩ := offer_of_no_room (s := { s.matched r with sc := { s.sc with level := v } }) hd hroom
      exact ⟨_, _, _, hq, heq⟩
  obtain ⟨c, b, a, hq, heq⟩ := hoffer
  have hfree : c.claim = none := by
    split at hq
    · rw [hq, ← h.claim]
    · rw [hq, ← h.claim]
  refine ⟨c, b, a, hq, ?_⟩
  have hrequest : levelRequest v .entry n.val (s.matched r) = offer false (.level s.sc.level v .entry n.val) y :=
    (levelRequest_of_record (s := s.matched r) h.watching hv hr).trans (by rw [hy]; rfl)
  rw [h.exec_level he hverdict hlinks hstop hlevel, hrequest, heq, hy,
    decideForward_of_row (v := s.rows) (q := plainRow s r .deciding) rfl rfl]
  subst he
  exact congrArg Host.Outcome.next (finish_releasePort_of_watching h.watching h.idle hfree hd h.port)

end Sys2Proof.Machine
end

section
/-! A request whose hits are counted, and one whose hits or counters stop the session before or after its decision (R19,
R20, R50, R73, R77, R78, R86): the second part of obligation O40. -/

namespace Sys2Proof.Machine

variable {s t x : State} {r : Request} {port : Downstream} {tag : Fin 8} {q : Row} {e : BitVec 16}

/-! ### Causes of expiries -/

/-- Causes raised one after the other, after a change that the Alert Unit has no part in. -/
theorem foldl_raise_of_au {α : Type} (cls : α → Option (Fin 4)) (k : CauseKind) (i : α → Nat) (l : List α)
    (h : t.au = s.au) :
    l.foldl (fun u y => raise (cls y) k (i y) u) t =
      { t with au := (l.foldl (fun u y => raise (cls y) k (i y) u) s).au } := by
  induction l generalizing s t with
  | nil =>
    rw [List.foldl_nil, List.foldl_nil, ← h]
  | cons y l ih =>
    have hone : (raise (cls y) k (i y) t).au = (raise (cls y) k (i y) s).au := raise_au_congr _ _ _ h
    rw [List.foldl_cons, List.foldl_cons, ih hone, raise_eq]

/-- The Alert Unit once the causes of the expiring counters have been raised (R77): nothing else of a state counts. -/
def expiredAlerts (cs : Vector Counter 4) (expired : BitVec 4) (au : AlertUnit) : AlertUnit :=
  ((countersIn expired).foldl (fun a (n : Fin 4) => raise cs[n].alert .expiry n.val a)
    { State.reset with au := au }).au

theorem foldl_raise_expiries (cs : Vector Counter 4) (expired : BitVec 4) (t : State) :
    (countersIn expired).foldl (fun a (n : Fin 4) => raise cs[n].alert .expiry n.val a) t =
      { t with au := expiredAlerts cs expired t.au } :=
  foldl_raise_of_au (fun n : Fin 4 => cs[n].alert) .expiry Fin.val (countersIn expired)
    (s := { State.reset with au := t.au }) rfl

/-! ### A stop request with no slot PARKED (R50) -/

theorem stopRequest_of_free {reason : StopReason} (hw : s.sc.session = .watching)
    (hfree : ∀ n : Fin 2, s.hold.slots[n] = none) : stopRequest reason s = s.frozen reason := by
  have hrelease : ∀ n : Fin 2, releaseSlot (makeHit false) n .stopForward [] (s.frozen reason) = s.frozen reason :=
    fun n => releaseSlot_of_free (s := s.frozen reason) (hfree n)
  rw [stopRequest_of_watching hw]
  exact (congrArg (releaseSlot (makeHit false) 1 .stopForward []) (hrelease 0)).trans (hrelease 1)

theorem mapVec_set (f : Row → Row) (v : Vector Row 8) (tag : Fin 8) (q : Row) :
    mapVec f (v.set tag q) = (mapVec f v).set tag (f q) := by
  refine rows_ext fun u => ?_
  have hmap : ∀ w : Vector Row 8, (mapVec f w)[u] = f w[u] := fun w => mapVec_getElem f w u.val u.isLt
  rw [hmap, row_set, row_set, hmap]
  split <;> rfl

/-- The counters that expire ask for their stops in ascending order, and the first that has one is taken (R78). -/
theorem foldl_expiryStop_first {l : List (Fin 4)} {c : Fin 4} (hl : l.Pairwise (· < ·)) (hc : c ∈ l)
    (hbelow : ∀ n ∈ l, n < c → s.counters[n].stop = false) (hstop : s.counters[c].stop = true)
    (hw : s.sc.session = .watching) (hfree : ∀ n : Fin 2, s.hold.slots[n] = none) :
    l.foldl (fun a n => expiryStop n a) s = s.frozen (.counter c) := by
  induction l with
  | nil => cases hc
  | cons n l ih =>
    obtain ⟨hfirst, hl⟩ := List.pairwise_cons.1 hl
    rw [List.foldl_cons]
    by_cases hn : c = n
    · subst hn
      have hone : expiryStop c s = s.frozen (.counter c) := by
        rw [expiryStop, if_pos hstop, stopRequest_of_free hw hfree]
      rw [hone]
      refine List.foldl_fixed' (fun m => ?_) l
      unfold expiryStop
      split
      · exact stopRequest_of_not_watching (s := s.frozen (.counter c)) nofun
      · rfl
    · have hmem : c ∈ l := (List.mem_cons.1 hc).resolve_left hn
      have hone : expiryStop n s = s := by
        rw [expiryStop, if_neg (by rw [hbelow n List.mem_cons_self (hfirst c hmem)]; decide)]
      rw [hone]
      exact ih hl hmem fun m hm => hbelow m (List.mem_cons_of_mem _ hm)

theorem countersIn_ascending (e : BitVec 4) : (countersIn e).Pairwise (· < ·) :=
  List.Pairwise.filter _ (by decide)

/-- An event whose expiring counters ask for no level and no record, the first that stops being `c`. -/
theorem counterEvent_of_stop {ev : CounterEvent} {new : Vector Counter 4} {expired : BitVec 4} {c : Fin 4}
    (hw : s.sc.session = .watching) (hfree : ∀ n : Fin 2, s.hold.slots[n] = none)
    (htake : takeEvent ev s.counters = (new, expired))
    (hplain : ∀ n : Fin 4, expired.getLsbD n.val = true → s.counters[n].nextLevel = none ∧ s.counters[n].record = false)
    (hc : expired.getLsbD c.val = true) (hstop : s.counters[c].stop = true)
    (hbelow : ∀ n < c, expired.getLsbD n.val = true → s.counters[n].stop = false) :
    counterEvent ev s =
      State.frozen { s with counters := new, au := expiredAlerts s.counters expired s.au } (.counter c) := by
  have hsetup : ∀ n : Fin 4, new[n].setup = s.counters[n].setup := fun n => by
    have h := takeEvent_setup ev s.counters n
    rwa [htake] at h
  have hstops : ∀ n : Fin 4, new[n].stop = s.counters[n].stop := fun n => congrArg CounterSetup.stop (hsetup n)
  have hactions := foldl_expiryActions (s := { s with counters := new }) (l := countersIn expired) hsetup fun n hn =>
    hplain n (mem_countersIn.1 hn)
  rw [foldl_raise_expiries] at hactions
  simp only [counterEvent, hw, if_true, htake, hactions]
  exact foldl_expiryStop_first (s := { s with counters := new, au := expiredAlerts s.counters expired s.au })
    (countersIn_ascending expired) (mem_countersIn.2 hc)
    (fun n hn hlt => (hstops n).trans (hbelow n hlt (mem_countersIn.1 hn))) ((hstops c).trans hstop) hw hfree

end Sys2Proof.Machine
end

section
/-! The steps of a request whose hits are counted, or stop the session (R19, R20, R50, R86): the second part of obligation
O40. -/

namespace Sys2Proof.Machine

variable {s t x : State} {r : Request} {port : Downstream} {tag : Fin 8} {q : Row} {e : BitVec 16}

/-! ### Notices (R19, R73) -/

/-- The row has notified the counters of its hits (R19). -/
def notifiedRow (s : State) (r : Request) (st : RowState) (links : BitVec 4) : Row :=
  { plainRow s r st with notified := links }

theorem notify_matched (s : State) (r : Request) (links : BitVec 4) :
    notify r.tag links (s.matched r) =
      counterEvent { hits := links, ticked := false }
        (s.withHits (earlySet s.entries r s.sc.level) r.tag (notifiedRow s r .deciding links)) := by
  have hrow : notifiedRow s r .deciding links =
      { plainRow s r .deciding with notified := (plainRow s r .deciding).notified ||| links } := by
    have hnone : (plainRow s r .deciding).notified ||| links = links := BitVec.zero_or
    rw [hnone, notifiedRow]
  rw [notify, State.matched, modifyRow_withHits, hrow]

theorem State.TakesPlain.exec_counters (h : s.TakesPlain r port) (he : e = earlySet s.entries r s.sc.level)
    {new : Vector Counter 4} {expired : BitVec 4} (hverdict : verdictOf s.entries e = .forward)
    (hlevel : levelOf s.entries e = none) (hstop : stopOf s.entries e = none)
    (htake : takeEvent { hits := linksOf s.entries e, ticked := false } s.counters = (new, expired))
    (hplain : ∀ n : Fin 4, expired.getLsbD n.val = true →
      s.counters[n].nextLevel = none ∧ s.counters[n].stop = false ∧ s.counters[n].record = false)
    (hd : s.rw.ringDone = false) :
    Machine.exec (.request (some r)) s =
      .next { s.withHits e r.tag (notifiedRow s r .queued (linksOf s.entries e)) with
              counters := new, fq := s.fq ++ [r.tag],
              au := expiredAlerts s.counters expired (raiseHits (alertsOf s.entries e) s).au } := by
  have hevent := counterEvent_of_causes
    (s := s.withHits e r.tag (notifiedRow s r .deciding (linksOf s.entries e))) h.watching htake hplain
  have hcauses := hevent.trans (foldl_raise_expiries s.counters expired _)
  rw [h.exec he, hverdict, hlevel, hstop, requestLevel_none, requestStop_none, notify_matched, ← he, hcauses, carryOut,
    decideForward_of_row (v := s.rows) (q := notifiedRow s r .deciding (linksOf s.entries e)) rfl rfl]
  exact congrArg Host.Outcome.next (finish_releasePort_of_watching h.watching h.idle h.claim hd h.port)

/-! ### The end of the step that stops the session -/

/-- The rows with matching ended, and the row of the request. -/
def State.stoppedRows (s : State) (tag : Fin 8) (q : Row) : Vector Row 8 :=
  (mapVec (fun x => { x with late := 0#16 }) s.rows).set tag q

/-- What a stop request leaves with no slot PARKED, field by field. -/
theorem frozen_of_row (hrows : x.rows = s.rows.set tag q) (reason : StopReason) :
    x.frozen reason =
      { x with
        rows := s.stoppedRows tag { q with late := 0#16 }
        sc := { x.sc with session := .stopping, reason := reason }
        counters := mapVec (fun c => { c with tickPending := false }) x.counters } := by
  have hmap : mapVec (fun x : Row => { x with late := 0#16 }) x.rows = s.stoppedRows tag { q with late := 0#16 } := by
    rw [hrows, mapVec_set, State.stoppedRows]
  rw [← hmap]
  rfl

/-- A debt of another row stands. -/
theorem someOwes_of_stoppedRows (h : s.someOwes = true) (hempty : s.rows[tag] = Row.empty)
    (hrows : x.rows = s.stoppedRows tag q) : x.someOwes = true := by
  obtain ⟨u, hu⟩ := someOwes_iff.1 h
  have hne : u ≠ tag := by
    rintro rfl
    rw [hempty] at hu
    cases hu
  have hlate : (mapVec (fun x : Row => { x with late := 0#16 }) s.rows)[u] = { s.rows[u] with late := 0#16 } :=
    mapVec_getElem (fun x : Row => { x with late := 0#16 }) s.rows u.val u.isLt
  refine someOwes_iff.2 ⟨u, ?_⟩
  rw [hrows, State.stoppedRows, row_set, if_neg hne, hlate]
  exact hu

/-- While a row owes a record, STOPPING stands whatever has become of the STOP record (R51, R52). -/
theorem finish_releasePort_of_owing (hs : x.sc.session = .stopping) (hidle : x.rqp.acceptance = .idle)
    (hclaim : x.cq.claim = none) (hd : x.rw.ringDone = false) (howes : x.someOwes = true)
    (hport : x.mpa.port = .issuing port) : finish (releasePort x) = x := by
  rw [releasePort_of_free hidle hclaim]
  refine finish_of_rest ⟨by rw [State.waitStands, hidle], .inl ?_, fun _ => ?_⟩ (noGrant_of_issuing hport)
  · rw [State.mayWait, hs, hd]
    rfl
  · cases hrecord : x.sc.stopRecord with
    | notDue => simp only [State.stoppingStands, hrecord, howes]
    | due => simp only [State.stoppingStands, hrecord, hd, Bool.not_false]
    | placed => simp only [State.stoppingStands, hrecord, howes, Bool.true_or]

/-- The end of the step of a request that has stopped the session while another row owes a record. -/
theorem State.TakesPlain.finish_stopped (h : s.TakesPlain r port) (hd : s.rw.ringDone = false)
    (howes : s.someOwes = true) (ht : t = x) (hs : x.sc.session = .stopping) (hidle : x.rqp = s.rqp) (hcq : x.cq = s.cq)
    (hring : x.rw = s.rw) (hmpa : x.mpa = s.mpa) (hrows : x.rows = s.stoppedRows r.tag q) :
    Machine.finish (releasePort t) = x := by
  rw [ht]
  exact finish_releasePort_of_owing hs (by rw [hidle, h.idle]) (by rw [hcq, h.claim])
    (by rw [hring, hd]) (someOwes_of_stoppedRows howes h.row hrows) (by rw [hmpa, h.port])

/-! ### A stop that the hits ask for (R20, R50) -/

theorem State.TakesPlain.exec_stopOf (h : s.TakesPlain r port) (he : e = earlySet s.entries r s.sc.level) {n : Fin 16}
    (hlinks : linksOf s.entries e = 0#4) (hlevel : levelOf s.entries e = none) (hstop : stopOf s.entries e = some n) :
    Machine.exec (.request (some r)) s =
      .next (Machine.finish (releasePort (stopRequest (.entry n)
        (carryOut r.tag (verdictOf s.entries e) (s.matched r))))) := by
  rw [h.exec he, hlinks, hlevel, hstop, requestLevel_none, notify_none]
  rfl

/-- A request that is forwarded, and then stops the session. -/
theorem State.TakesPlain.exec_stop_forward (h : s.TakesPlain r port) (he : e = earlySet s.entries r s.sc.level)
    {n : Fin 16} (hlinks : linksOf s.entries e = 0#4) (hlevel : levelOf s.entries e = none)
    (hstop : stopOf s.entries e = some n) (hverdict : verdictOf s.entries e = .forward)
    (hfree : ∀ n : Fin 2, s.hold.slots[n] = none) (howes : s.someOwes = true) (hd : s.rw.ringDone = false) :
    Machine.exec (.request (some r)) s =
      .next { s.withHits e r.tag (plainRow s r .queued) with
              rows := s.stoppedRows r.tag { plainRow s r .queued with late := 0#16 }
              sc := { s.sc with session := .stopping, reason := .entry n }
              counters := mapVec (fun c => { c with tickPending := false }) s.counters
              fq := s.fq ++ [r.tag] } := by
  have hstopped := (stopRequest_of_free (reason := .entry n)
    (s := { s.withHits e r.tag (plainRow s r .queued) with fq := s.fq ++ [r.tag] }) h.watching hfree).trans
    (frozen_of_row (s := s) (tag := r.tag) (q := plainRow s r .queued) rfl _)
  have hforward := decideForward_matched_forwarded s r false
  rw [← he] at hforward
  rw [h.exec_stopOf he hlinks hlevel hstop, hverdict, carryOut, hforward]
  exact congrArg Host.Outcome.next (h.finish_stopped hd howes hstopped rfl rfl rfl rfl rfl rfl)

/-- A slot that is FREE, filled and released is FREE. -/
theorem slots_set_set (v : Vector (Option Parked) 2) (k : Fin 2) (hk : v[k] = none) (p : Option Parked) :
    (v.set k p).set k none = v := by
  rw [Vector.set_set, ← hk]
  exact Vector.set_getElem_self _

/-- A stop request with slot 0 alone PARKED, with a transaction that owes no record. -/
theorem stopRequest_of_one {p : Parked} {reason : StopReason} (hw : x.sc.session = .watching)
    (hp : x.hold.slots[0] = some p) (hfree : x.hold.slots[1] = none) (hrows : x.rows = s.rows.set p.tag q)
    (howed : q.owed = false) :
    stopRequest reason x =
      { x with
        rows := s.stoppedRows p.tag { q with late := 0#16, carry := .stopForward, state := .queued }
        sc := { x.sc with session := .stopping, reason := reason }
        counters := mapVec (fun c => { c with tickPending := false }) x.counters
        hold := { x.hold with slots := x.hold.slots.set 0 none }
        fq := x.fq ++ [p.tag] } := by
  have hfrozen := frozen_of_row (s := s) hrows reason
  have hrow : (x.frozen reason).rows[p.tag] = { q with late := 0#16 } := by
    rw [hfrozen]
    exact (row_set ..).trans (if_pos rfl)
  have hfirst := releaseSlot_of_forward (s := x.frozen reason) (n := 0) (words := []) (makeHit false) (p := p) hp
    (d := .stopForward) rfl (.inl (by rw [hrow]; exact howed))
  have hsecond : releaseSlot (makeHit false) 1 .stopForward [] (releaseSlot (makeHit false) 0 .stopForward []
      (x.frozen reason)) = releaseSlot (makeHit false) 0 .stopForward [] (x.frozen reason) := by
    refine releaseSlot_of_free ?_
    rw [hfirst]
    exact (freeSlot_other 0 (x.frozen reason)).trans hfree
  rw [stopRequest_of_watching hw]
  refine hsecond.trans (hfirst.trans ?_)
  rw [hrow, hfrozen]
  have hset : (s.stoppedRows p.tag { q with late := 0#16 }).set p.tag
      { q with late := 0#16, carry := .stopForward, state := .queued } =
      s.stoppedRows p.tag { q with late := 0#16, carry := .stopForward, state := .queued } := Vector.set_set ..
  rw [← hset]
  rfl

/-- A request that is parked in slot 0, and then stops the session: it is released with STOP_FORWARD (R50, R97). -/
theorem State.TakesPlain.exec_stop_hold (h : s.TakesPlain r port) (he : e = earlySet s.entries r s.sc.level)
    {n m : Fin 16} (hlinks : linksOf s.entries e = 0#4) (hlevel : levelOf s.entries e = none)
    (hstop : stopOf s.entries e = some n) (hverdict : verdictOf s.entries e = .hold m)
    (hfree : ∀ n : Fin 2, s.hold.slots[n] = none) (howes : s.someOwes = true) (hd : s.rw.ringDone = false) :
    Machine.exec (.request (some r)) s =
      .next (raise s.hold.holdClass .parked 0
        { s.withHits e r.tag (plainRow s r .queued) with
          rows := s.stoppedRows r.tag { plainRow s r .queued with late := 0#16, carry := .stopForward }
          sc := { s.sc with session := .stopping, reason := .entry n }
          counters := mapVec (fun c => { c with tickPending := false }) s.counters
          hold := { s.hold with ticket := s.hold.ticket + 1#8 }
          fq := s.fq ++ [r.tag] }) := by
  have hlowest : s.hold.freeSlot = some 0 := freeSlot_of_lowest (fun j hj => absurd hj (by omega)) (hfree 0)
  have hticket : nextTicket s.hold 0 = s.hold.ticket + 1#8 := by
    rw [nextTicket_eq, hfree (1 - 0), if_neg nofun]
  have hslots : (s.hold.slots.set 0 (some (parkedNow s r (nextTicket s.hold 0)))).set 0 none = s.hold.slots :=
    slots_set_set s.hold.slots 0 (hfree 0) _
  obtain ⟨a, ha⟩ : ∃ a, a = (raise s.hold.holdClass .parked 0 (s.parkedIn r 0)).au := ⟨_, rfl⟩
  have hparked : decideHold r.tag m (s.matched r) = { s.parkedIn r 0 with au := a } := by
    rw [decideHold_matched h.watching hlowest, raise_eq, ha]
    rfl
  have hstopped := stopRequest_of_one (s := s) (q := plainRow s r .parked) (reason := .entry n)
    (p := parkedNow s r (nextTicket s.hold 0)) (x := { s.parkedIn r 0 with au := a }) h.watching
    ((slot_set s.hold.slots 0 0 _).trans (if_pos rfl)) ((slot_set s.hold.slots 0 1 _).trans (hfree 1)) rfl rfl
  have hhold : ({ s.hold with
      slots := (s.hold.slots.set 0 (some (parkedNow s r (nextTicket s.hold 0)))).set 0 none
      ticket := nextTicket s.hold 0 } : HoldUnit) = { s.hold with ticket := s.hold.ticket + 1#8 } := by
    rw [hslots, hticket]
  rw [h.exec_stopOf he hlinks hlevel hstop, hverdict, carryOut, hparked,
    h.finish_stopped hd howes hstopped rfl rfl rfl rfl rfl rfl]
  subst he
  refine congrArg Host.Outcome.next
    (Eq.symm ((raise_of_au_eq (s := s.parkedIn r 0) s.hold.holdClass .parked 0 ?_).trans ?_))
  · rfl
  · rw [← ha, ← hhold]
    rfl

/-! ### A stop that a counter asks for, before the decision (R78, R86) -/

/-- A HOLD attempt that finds the session stopped by counter `c` forwards with STOP_FORWARD. -/
theorem State.TakesPlain.exec_counter_stop (h : s.TakesPlain r port) (he : e = earlySet s.entries r s.sc.level)
    {m : Fin 16} {c : Fin 4} {new : Vector Counter 4} {expired : BitVec 4} (hverdict : verdictOf s.entries e = .hold m)
    (hlevel : levelOf s.entries e = none) (hstop : stopOf s.entries e = none)
    (htake : takeEvent { hits := linksOf s.entries e, ticked := false } s.counters = (new, expired))
    (hplain : ∀ n : Fin 4, expired.getLsbD n.val = true → s.counters[n].nextLevel = none ∧ s.counters[n].record = false)
    (hc : expired.getLsbD c.val = true) (hcstop : s.counters[c].stop = true)
    (hbelow : ∀ n < c, expired.getLsbD n.val = true → s.counters[n].stop = false)
    (hfree : ∀ n : Fin 2, s.hold.slots[n] = none) (howes : s.someOwes = true) (hd : s.rw.ringDone = false) :
    Machine.exec (.request (some r)) s =
      .next { s.withHits e r.tag (notifiedRow s r .queued (linksOf s.entries e)) with
              rows := s.stoppedRows r.tag
                { notifiedRow s r .queued (linksOf s.entries e) with late := 0#16, carry := .stopForward }
              sc := { s.sc with session := .stopping, reason := .counter c }
              counters := mapVec (fun x => { x with tickPending := false }) new
              fq := s.fq ++ [r.tag]
              au := expiredAlerts s.counters expired (raiseHits (alertsOf s.entries e) s).au } := by
  obtain ⟨y, hy⟩ : ∃ y : State, y = { s.withHits e r.tag (notifiedRow s r .deciding (linksOf s.entries e)) with
    counters := new, au := expiredAlerts s.counters expired (raiseHits (alertsOf s.entries e) s).au } := ⟨_, rfl⟩
  have hevent : counterEvent { hits := linksOf s.entries e, ticked := false }
      (s.withHits e r.tag (notifiedRow s r .deciding (linksOf s.entries e))) = y.frozen (.counter c) := by
    rw [hy]
    exact counterEvent_of_stop (s := s.withHits e r.tag _) h.watching hfree htake hplain hc hcstop hbelow
  have hrows : y.rows = s.rows.set r.tag (notifiedRow s r .deciding (linksOf s.entries e)) := by rw [hy]; rfl
  have hfrozen := frozen_of_row hrows (.counter c)
  have hdecided : decideHold r.tag m (y.frozen (.counter c)) =
      decideForward r.tag .stopForward false (y.frozen (.counter c)) := if_neg nofun
  have hstopped := (congrArg (decideForward r.tag .stopForward false) hfrozen).trans
    (decideForward_of_row (v := mapVec (fun x => { x with late := 0#16 }) s.rows)
      (q := { notifiedRow s r .deciding (linksOf s.entries e) with late := 0#16 }) rfl rfl .stopForward false)
  subst hy
  rw [h.exec he, hverdict, hlevel, hstop, requestLevel_none, requestStop_none, notify_matched, ← he, hevent, carryOut,
    hdecided]
  exact congrArg Host.Outcome.next (h.finish_stopped hd howes hstopped rfl rfl rfl rfl rfl rfl)

end Sys2Proof.Machine
end

section
/-! The two parts of obligation O40 together: by the disposition, and by what else the hits ask for. -/

namespace Sys2Proof.Proofs.BlockingAndHolding

open Sys2Proof.Machine

/-- Settles O40: the disposition of hits that ask for nothing else; then a level, the notices, and the stops. -/
theorem watchedRequestDecided : Obligations.WatchedRequestDecided := by
  refine ⟨?dispositions, ?actions⟩
  case dispositions =>
    intro r e q d s u hready hw hrow hm hfree hport he hplain hq hu
    obtain ⟨-, -, -, howed⟩ := id hplain
    have h : s.TakesPlain r d := ⟨hready, hw, hrow, hm, hfree, hport, he ▸ howed⟩
    rw [raiseHits_countHits] at hu
    subst hq hu
    refine ⟨fun hverdict => ?forward, fun status hverdict => ?block, fun n hverdict =>
      ⟨fun k ticket p hbelow hk hticket hp => ?park, fun hfull => ?refused⟩⟩
    case forward =>
      rw [h.exec_forward he hplain hverdict, he]
      rfl
    case block =>
      have hrows : s.rows.set r.tag Row.empty = s.rows := by
        rw [← hrow]
        exact Vector.set_getElem_self _
      rw [h.exec_block he hplain hverdict, State.withHits, hrows]
      rfl
    case park =>
      rw [← nextTicket_eq s.hold k] at hticket
      subst hticket hp
      rw [h.exec_park he hplain hverdict (freeSlot_of_lowest hbelow hk), he]
      rfl
    case refused =>
      rw [h.exec_refused he hplain hverdict (freeSlot_of_full hfull), he]
      rfl
  case actions =>
    intro r e q d s u hready hw hrow hm hfree hport hd hb he howed hq hu
    have h : s.TakesPlain r d := ⟨hready, hw, hrow, hm, hfree, hport, he ▸ howed⟩
    rw [raiseHits_countHits] at hu
    subst hq hu
    refine ⟨fun n v hverdict hlinks hstop hlevel => ⟨fun hv => ?quiet, fun hv hr => ?record⟩,
      fun new expired hverdict hlevel hstop htake hplain => ?counters, fun hslots howes hlevel =>
      ⟨fun n t hlinks hstop ht => ⟨fun hverdict => ?stopForward, fun m hverdict => ?stopHold⟩,
        fun m c new expired hverdict hstop htake hplain hc hcstop hbelow => ?counterStop⟩⟩
    case quiet =>
      rw [h.exec_level_quiet he hverdict hlinks hstop hlevel hd hv, he]
      rfl
    case record =>
      obtain ⟨c, b, a, hq, hexec⟩ := h.exec_level_record he hverdict hlinks hstop hlevel hd hb hv hr
      refine ⟨_, hexec, hq, ?_⟩
      rw [he]
      rfl
    case counters =>
      rw [h.exec_counters he hverdict hlevel hstop htake hplain hd, foldl_raise_expiries, he]
      rfl
    case stopForward =>
      subst ht
      rw [h.exec_stop_forward he hlinks hlevel hstop hverdict hslots howes hd, he]
      rfl
    case stopHold =>
      subst ht
      rw [h.exec_stop_hold he hlinks hlevel hstop hverdict hslots howes hd, he]
      rfl
    case counterStop =>
      rw [h.exec_counter_stop he hverdict hlevel hstop htake hplain hc hcstop hbelow hslots howes hd,
        foldl_raise_expiries, he]
      rfl

end Sys2Proof.Proofs.BlockingAndHolding
end

section
/-! The geometry of the ring: sizes in words, pointers, the bursts of a run, where a placement lies (R134, R136, R138
to R141). -/

namespace Sys2Proof.Machine

variable {r : RingWriter} {a : Word} {n : Nat}

/-! ### Words of the ring (R134, R136) -/

theorem RingWriter.described.four_mul_size (h : r.described) : 4 * r.size = r.limit.toNat - r.base.toNat := by
  obtain ⟨hbase, hlimit, -⟩ := h
  rw [RingWriter.size]
  omega

/-- The smallest ring has sixteen words (R135). -/
theorem RingWriter.described.sixteen_le_size (h : r.described) : 16 ≤ r.size := by
  have hsize := h.four_mul_size
  obtain ⟨-, -, hsmall, -⟩ := h
  omega

theorem RingWriter.described.four_mul_toLimit (h : r.described) (hw : r.holds r.write) :
    4 * r.toLimit = r.limit.toNat - r.write.toNat := by
  obtain ⟨-, hlimit, -⟩ := h
  obtain ⟨hwrite, -⟩ := hw
  rw [RingWriter.toLimit]
  omega

theorem RingWriter.described.one_le_toLimit (h : r.described) (hw : r.holds r.write) : 1 ≤ r.toLimit := by
  have htail := h.four_mul_toLimit hw
  obtain ⟨-, -, hbelow⟩ := hw
  omega

theorem RingWriter.described.toLimit_le_size (h : r.described) (hw : r.holds r.write) : r.toLimit ≤ r.size := by
  have hsize := h.four_mul_size
  have htail := h.four_mul_toLimit hw
  obtain ⟨-, habove, -⟩ := hw
  omega

theorem RingWriter.described.holds_base (h : r.described) : r.holds r.base := by
  obtain ⟨hbase, -, hsmall, -⟩ := h
  exact ⟨by omega, Nat.le_refl _, by omega⟩

/-- An address some words on, as long as it does not pass the end of memory. -/
theorem toNat_add_words (h : a.toNat + 4 * n < 4294967296) : (a + BitVec.ofNat 32 (4 * n)).toNat = a.toNat + 4 * n := by
  rw [BitVec.toNat_add, BitVec.toNat_ofNat]
  omega

/-- WRITE stands in the ring again when it has moved past a run that ends in the ring (R143). -/
theorem RingWriter.described.holds_advance (h : r.described) (ha : a.toNat % 4 = 0) (hbase : r.base.toNat ≤ a.toNat)
    (hend : a.toNat + 4 * n ≤ r.limit.toNat) : r.holds (r.advance a n) := by
  have hnext : (a + BitVec.ofNat 32 (4 * n)).toNat = a.toNat + 4 * n :=
    toNat_add_words (Nat.lt_of_le_of_lt hend r.limit.isLt)
  unfold RingWriter.advance
  split
  case isTrue => exact h.holds_base
  case isFalse hne =>
    have hne' : (a + BitVec.ofNat 32 (4 * n)).toNat ≠ r.limit.toNat := fun he => hne (BitVec.eq_of_toNat_eq he)
    rw [RingWriter.holds, hnext]
    omega

/-! ### The bursts of a run (R141) -/

/-- Each burst of a run has 1, 2, 4 or 8 words, none beyond the run, and is aligned to its own length. -/
theorem burstSize_spec (ha : a.toNat % 4 = 0) (hn : 1 ≤ n) :
    burstSize a n ∈ [1, 2, 4, 8] ∧ burstSize a n ≤ n ∧ a.toNat % (4 * burstSize a n) = 0 := by
  unfold burstSize
  split
  case isTrue h => exact ⟨by decide, h⟩
  case isFalse =>
    split
    case isTrue h => exact ⟨by decide, h⟩
    case isFalse =>
      split
      case isTrue h => exact ⟨by decide, h⟩
      case isFalse => exact ⟨by decide, hn, ha⟩

theorem cutRun_nil (a : Word) : cutRun a [] = [] := rfl

/-- A run that lies in the ring is cut into bursts that do. -/
theorem admits_of_mem_cutRun (a : Word) (ws : List Word) (ha : a.toNat % 4 = 0) (hbase : r.base.toNat ≤ a.toNat)
    (hend : a.toNat + 4 * ws.length ≤ r.limit.toNat) : ∀ b ∈ cutRun a ws, r.admits b := by
  match ws with
  | [] => exact fun b hb => nomatch hb
  | w :: ws =>
    obtain ⟨hsize, hle, haligned⟩ := burstSize_spec ha (n := (w :: ws).length) (Nat.succ_pos _)
    have hone := one_le_burstSize a (w :: ws).length
    generalize hk : burstSize a (w :: ws).length = k at hsize hle haligned hone
    have hnext : (a + BitVec.ofNat 32 (4 * k)).toNat = a.toNat + 4 * k :=
      toNat_add_words (by have := r.limit.isLt; omega)
    rw [cutRun_cons, hk]
    intro b hb
    obtain rfl | hb := List.mem_cons.1 hb
    · rw [RingWriter.admits, List.length_take_of_le hle]
      exact ⟨hsize, haligned, hbase, show a.toNat + 4 * k ≤ r.limit.toNat by omega⟩
    · have hdrop : ((w :: ws).drop k).length = (w :: ws).length - k := List.length_drop
      exact admits_of_mem_cutRun _ ((w :: ws).drop k) (by omega) (by omega) (by omega) b hb
termination_by ws.length
decreasing_by
  rw [hdrop]
  exact Nat.sub_lt (Nat.succ_pos _) hone

theorem cutRun_ne_nil {ws : List Word} (h : ws ≠ []) : cutRun a ws ≠ [] := by
  cases ws with
  | nil => exact absurd rfl h
  | cons w ws => exact cutRun_cons a w ws ▸ List.cons_ne_nil _ _

/-- The words of a record are as many as its length says (R104). -/
theorem Record.words_length (x : Record) : x.words.length = x.length := by
  obtain ⟨body, -, -⟩ := x
  cases body with
  | hit h => exact Nat.add_comm _ 4
  | start | stop | gap | loss | level | expiry | mark | wrap => rfl

theorem Record.words_ne_nil (x : Record) : x.words ≠ [] := List.cons_ne_nil _ _

/-! ### Placements (R138 to R141, R143) -/

/-- A placement lies in the ring: its bursts, of which there is one at least, and where WRITE stands after it. -/
structure RingWriter.Carries (r : RingWriter) (p : Placement) : Prop where
  newWrite : r.holds p.newWrite
  bursts   : ∀ b ∈ p.bursts, r.admits b
  nonempty : p.bursts ≠ []

theorem RingWriter.described.carries_single {h : Record} (hr : r.described) (hw : r.holds r.write)
    (hfit : h.length ≤ r.toLimit) : r.Carries (r.single h) := by
  have htail := hr.four_mul_toLimit hw
  obtain ⟨haligned, habove, hbelow⟩ := hw
  have hend : r.write.toNat + 4 * h.length ≤ r.limit.toNat := by omega
  exact ⟨hr.holds_advance haligned habove hend,
    admits_of_mem_cutRun _ h.words haligned habove (by rwa [Record.words_length]), cutRun_ne_nil h.words_ne_nil⟩

/-- The WRAP word has room at WRITE, which is below LIMIT. -/
theorem RingWriter.described.admits_wrap (hr : r.described) (hw : r.holds r.write) :
    ∀ b ∈ cutRun r.write wrapRecord.words, r.admits b := by
  have hone := hr.one_le_toLimit hw
  have htail := hr.four_mul_toLimit hw
  obtain ⟨haligned, habove, hbelow⟩ := hw
  exact admits_of_mem_cutRun _ _ haligned habove (by rw [Record.words_length]; change _ + 4 * 1 ≤ _; omega)

theorem RingWriter.described.carries_wrapOnly (hr : r.described) (hw : r.holds r.write) : r.Carries r.wrapOnly :=
  ⟨hr.holds_base, hr.admits_wrap hw, cutRun_ne_nil wrapRecord.words_ne_nil⟩

theorem RingWriter.described.carries_wrapping {h : Record} (hr : r.described) (hw : r.holds r.write)
    (hfit : h.length ≤ r.size) : r.Carries (r.wrapping h) := by
  have hsize := hr.four_mul_size
  obtain ⟨haligned, hbase, hbelow⟩ := hr.holds_base
  have hend : r.base.toNat + 4 * h.length ≤ r.limit.toNat := by omega
  refine ⟨hr.holds_advance haligned hbase hend, fun b hb => ?_,
    List.append_ne_nil_of_left_ne_nil (cutRun_ne_nil wrapRecord.words_ne_nil) _⟩
  obtain hwrap | hrecord := List.mem_append.1 hb
  · exact hr.admits_wrap hw b hwrap
  · exact admits_of_mem_cutRun _ h.words haligned hbase (by rwa [Record.words_length]) b hrecord

/-- Every placement that the Ring Writer forms lies in the ring. -/
theorem RingWriter.described.carries_of_choose {h : Record} {p : Placement} (hr : r.described) (hw : r.holds r.write)
    (hc : r.choose h = .write p) : r.Carries p := by
  have hone := hr.one_le_toLimit hw
  unfold RingWriter.choose at hc
  split at hc
  · split at hc
    case isTrue hfit => cases hc; exact hr.carries_single hw hfit.le
    case isFalse => cases hc
  · split at hc
    case isTrue hfit =>
      split at hc
      · cases hc; exact hr.carries_single hw hfit
      · cases hc
    case isFalse =>
      split at hc
      · split at hc
        · cases hc; exact hr.carries_wrapOnly hw
        · cases hc
      · split at hc
        · cases hc; exact hr.carries_wrapping hw (by omega)
        · cases hc

/-- The Ring Writer waits for space in LOOP mode only (R138, R139, R140). -/
theorem RingWriter.loop_of_choose {h : Record} (hc : r.choose h = .waitSpace) : r.mode = .loop := by
  cases hm : r.mode with
  | loop => rfl
  | once =>
    simp only [RingWriter.choose, hm] at hc
    split at hc <;> cases hc

end Sys2Proof.Machine
end

section
/-! What the Ring Writer, the arbiter, releases, stops and hits do keeps the ring sound (R134, R137, R142 to R147). -/

namespace Sys2Proof.Machine

variable {s t : State}

/-! ### The parts of the invariant -/

/-- The ring's part of a state is the Ring Writer and whether the session makes records. -/
theorem State.ringSound.congr (h : s.ringSound) (hrw : t.rw = s.rw)
    (hrecords : t.sc.session.records = s.sc.session.records) : t.ringSound := by
  rwa [State.ringSound, hrw, hrecords]

/-- A session that makes records has a ring (R46). -/
theorem State.ringSound.described (h : s.ringSound) (hr : s.sc.session.records = true) :
    s.rw.described ∧ s.rw.holds s.rw.write ∧ s.rw.holds s.rw.read := by
  obtain ⟨⟨-, -, hno⟩ | hd, -⟩ := h
  · rw [hr] at hno
    cases hno
  · exact hd

/-- The Ring Writer works in a session that makes records only (R137). -/
theorem State.ringSound.works (h : s.ringSound) (hw : s.rw.writer = .writing ∨ s.rw.writer = .waitSpace) :
    s.sc.session.records = true := by
  obtain ⟨-, -, -, hworks, -⟩ := h
  exact hworks hw

/-- A writer that is IDLE or waits for space has no burst outstanding and nothing to place (R134, R142). -/
theorem State.ringSound.unplaced (h : s.ringSound) (hw : s.rw.writer = .idle ∨ s.rw.writer = .waitSpace) :
    s.rw.outstanding = none ∧ s.rw.placement = none := by
  obtain ⟨-, hplacement, houtstanding, -⟩ := h
  have hnot : s.rw.writer ≠ .writing ∧ s.rw.writer ≠ .abandoning := by
    obtain hw | hw := hw <;> rw [hw] <;> decide
  constructor
  · unfold RingWriter.outstandingSound at houtstanding
    split at houtstanding <;> simp_all
  · unfold RingWriter.placementSound at hplacement
    split at hplacement <;> simp_all

/-- Between sessions the writer has at most a burst to abandon (R137, R147). -/
theorem State.ringSound.no_placement (h : s.ringSound) (hr : s.sc.session.records = false) :
    s.rw.writer ≠ .writing ∧ s.rw.writer ≠ .waitSpace ∧ s.rw.placement = none := by
  obtain ⟨-, hplacement, -, hworks, -⟩ := h
  have hwriting : s.rw.writer ≠ .writing := fun hw => by rw [hworks (.inl hw)] at hr; cases hr
  have hwait : s.rw.writer ≠ .waitSpace := fun hw => by rw [hworks (.inr hw)] at hr; cases hr
  refine ⟨hwriting, hwait, ?_⟩
  unfold RingWriter.placementSound at hplacement
  split at hplacement <;> simp_all

/-- What a placement in progress says of the ring while WRITING. -/
theorem State.ringSound.writing (h : s.ringSound) {p : Placement} (hp : s.rw.placement = some p) :
    s.rw.writer = .writing ∧ s.rw.holds p.newWrite ∧ (∀ b ∈ p.bursts, s.rw.admits b) ∧
      (s.rw.outstanding.isNone = true → p.bursts ≠ []) := by
  obtain ⟨-, hplacement, -⟩ := h
  simpa only [RingWriter.placementSound, hp, decide_eq_true_eq] using hplacement

/-- The ring with an idle writer: its pointers are all there is. -/
theorem ringSound_of_idle (hw : s.rw.writer = .idle) (ho : s.rw.outstanding = none) (hp : s.rw.placement = none)
    (hd : s.sc.session.records = false ∧ s.rw.base = 0#32 ∧ s.rw.limit = 0#32 ∨
      s.rw.described ∧ s.rw.holds s.rw.write ∧ s.rw.holds s.rw.read) : s.ringSound := by
  refine ⟨hd.imp (fun ⟨hr, hb, hl⟩ => ⟨hb, hl, hr⟩) id, ?_, ?_, ?_, ?_⟩
  · simp [RingWriter.placementSound, hp, hw]
  · simp [RingWriter.outstandingSound, ho, hw]
  · rw [hw]
    exact fun h => h.elim nofun nofun
  · rw [hw]
    exact nofun

/-- The ring while a session makes records and a placement is in progress. -/
theorem ringSound_of_writing {p : Placement} (hr : s.sc.session.records = true) (hd : s.rw.described)
    (hwrite : s.rw.holds s.rw.write) (hread : s.rw.holds s.rw.read) (hw : s.rw.writer = .writing)
    (hp : s.rw.placement = some p) (hnew : s.rw.holds p.newWrite) (hbursts : ∀ b ∈ p.bursts, s.rw.admits b)
    (hleft : s.rw.outstanding = none → p.bursts ≠ []) (hout : ∀ b, s.rw.outstanding = some b → s.rw.admits b) :
    s.ringSound := by
  refine ⟨.inr ⟨hd, hwrite, hread⟩, ?_, ?_, fun _ => hr, ?_⟩
  · simp only [RingWriter.placementSound, hp, decide_eq_true_eq, Option.isNone_iff_eq_none]
    exact ⟨hw, hnew, hbursts, hleft⟩
  · cases ho : s.rw.outstanding with
    | none => simp [RingWriter.outstandingSound, ho, hw]
    | some b => simpa only [RingWriter.outstandingSound, ho, decide_eq_true_eq] using .inr ⟨hw, hout b ho⟩
  · rw [hw]
    exact nofun

/-! ### Causes and records -/

theorem State.ringSound.raise (h : s.ringSound) (cls : Option (Fin 4)) (k : CauseKind) (i : Nat) :
    (raise cls k i s).ringSound := by
  rw [raise_eq]
  exact h

theorem State.ringSound.raiseMapped (h : s.ringSound) (k : CauseKind) (i : Nat) : (raiseMapped k i s).ringSound :=
  h.raise _ k i

theorem State.ringSound.dropRecord (h : s.ringSound) : (dropRecord s).ringSound := by
  rw [dropRecord_eq]
  exact h

theorem State.ringSound.append (h : s.ringSound) (rs : List Record) : (append rs s).ringSound := by
  rw [append_eq]
  exact h

theorem State.ringSound.admitBundle (h : s.ringSound) {own : Bool} {b : RecordBody}
    (ha : admitBundle own b s = some t) : t.ringSound := by
  rw [(admitBundle_some ha).2]
  exact h

/-! ### Releases -/

/-- A way to deal with a release's record that keeps the ring sound. -/
abbrev RingSoundMake (make : HitRecord → State → State) : Prop :=
  ∀ x u, State.ringSound u → (make x u).ringSound

theorem ringSoundMake_countLost : RingSoundMake fun _ => countLost 1 := fun _ _ h => h

theorem State.ringSound.releaseSlot {make : HitRecord → State → State} (hm : RingSoundMake make) (h : s.ringSound)
    (n : Fin 2) (d : Disposition) (words : List Word) : (releaseSlot make n d words s).ringSound := by
  unfold Machine.releaseSlot
  split
  case h_1 => exact h
  case h_2 p _ =>
    have hanswer : State.ringSound (if d.answers then Machine.modifyRow p.tag (answerFields d words)
        (Machine.freeSlot n s) else Machine.freeSlot n s) := by
      split <;> exact h
    dsimp only
    generalize (if d.answers then Machine.modifyRow p.tag (answerFields d words) (Machine.freeSlot n s)
        else Machine.freeSlot n s) = u at hanswer ⊢
    have hrecord : State.ringSound
        (if u.rows[p.tag].owed && (decide (u.rows[p.tag].kind = .write) || d.answers) then
          Machine.clearDebt p.tag (make (buildHit u p.tag d false false) u) else u) := by
      split
      · exact hm _ _ hanswer
      · exact hanswer
    split <;> exact hrecord

theorem State.ringSound.releaseBoth {make : HitRecord → State → State} (hm : RingSoundMake make) (h : s.ringSound) :
    (releaseBoth make s).ringSound :=
  (h.releaseSlot hm 0 .stopForward []).releaseSlot hm 1 .stopForward []

/-- STOPPING goes on making records (R105). -/
theorem State.ringSound.enterStoppingWith {make : HitRecord → State → State} (hm : RingSoundMake make)
    (h : s.ringSound) (hw : s.sc.session = .watching) (reason : StopReason) :
    (enterStoppingWith make reason s).ringSound := by
  have hfrozen : (s.frozen reason).ringSound := h.congr rfl (by rw [hw]; rfl)
  exact hfrozen.releaseBoth hm

/-! ### The Ring Writer (R137 to R140) -/

theorem State.ringSound.ringFinished (h : s.ringSound) : (ringFinished s).ringSound := by
  have hdone : (discardCounted { s with rw := { s.rw with ringDone := true } }).ringSound := h
  unfold Machine.ringFinished
  dsimp only
  split
  case isTrue hw => exact (hdone.raiseMapped _ _).enterStoppingWith ringSoundMake_countLost hw _
  case isFalse => exact hdone.raiseMapped _ _

/-- The placement of the head record lies in the ring, and a wait for space is one in LOOP mode. -/
theorem State.ringSound.formPlacement (h : s.ringSound) (hr : s.sc.session.records = true)
    (hw : s.rw.writer = .idle ∨ s.rw.writer = .waitSpace) : (formPlacement s).ringSound := by
  obtain ⟨hd, hwrite, hread⟩ := h.described hr
  obtain ⟨hout, hplacement⟩ := h.unplaced hw
  cases hq : s.cq.records with
  | nil => rwa [formPlacement_of_empty hq]
  | cons x rest =>
    cases hc : s.rw.choose x with
    | write p =>
      obtain ⟨hnew, hbursts, hnonempty⟩ := hd.carries_of_choose hwrite hc
      rw [formPlacement_of_write hq hc]
      exact ringSound_of_writing hr hd hwrite hread rfl rfl hnew hbursts (fun _ => hnonempty) fun b hb =>
        nomatch hout.symm.trans hb
    | waitSpace =>
      rw [formPlacement_of_waitSpace hq hc]
      refine ⟨.inr ⟨hd, hwrite, hread⟩, ?_, ?_, fun _ => hr, fun _ => RingWriter.loop_of_choose hc⟩
      · simp [RingWriter.placementSound, hplacement]
      · simp [RingWriter.outstandingSound, hout]
    | finished => rw [formPlacement_of_finished hq hc]; exact h.ringFinished

theorem State.ringSound.takeHead (h : s.ringSound) : (takeHead s).ringSound := by
  unfold Machine.takeHead
  split
  case isTrue htake => exact h.formPlacement htake.2.1 (.inl htake.1)
  case isFalse => exact h

theorem State.ringSound.offer (h : s.ringSound) (own : Bool) (b : RecordBody) : (offer own b s).ringSound := by
  unfold Machine.offer
  split
  · exact h
  · split
    case h_1 ha => exact (h.admitBundle ha).takeHead
    case h_2 => exact h.dropRecord

theorem State.ringSound.makeHit (h : s.ringSound) (own : Bool) (x : HitRecord) : (makeHit own x s).ringSound := by
  unfold Machine.makeHit
  split
  · exact h.offer own _
  · exact h

theorem ringSoundMake_makeHit (own : Bool) : RingSoundMake (makeHit own) := fun x _ h => h.makeHit own x

/-! ### Requests to the Session Controller, counters, hits -/

theorem State.ringSound.stopRequest (h : s.ringSound) (reason : StopReason) : (stopRequest reason s).ringSound := by
  unfold Machine.stopRequest
  split
  case isTrue hw => exact h.enterStoppingWith (ringSoundMake_makeHit false) hw reason
  case isFalse => exact h

theorem State.ringSound.levelRequest (h : s.ringSound) (v : Fin 4) (c : LevelCause) (i : Nat) :
    (levelRequest v c i s).ringSound := by
  unfold Machine.levelRequest
  split
  · have hlevel : ({ s with sc := { s.sc with level := v } } : State).ringSound := h
    dsimp only
    split
    · exact hlevel.offer _ _
    · exact hlevel
  · exact h

theorem State.ringSound.expiryActions (h : s.ringSound) (n : Fin 4) : (expiryActions n s).ringSound := by
  have hraise := h.raise s.counters[n].alert .expiry n.val
  have hlevel : State.ringSound (match s.counters[n].nextLevel with
      | some v => Machine.levelRequest v .counter n.val (Machine.raise s.counters[n].alert .expiry n.val s)
      | none => Machine.raise s.counters[n].alert .expiry n.val s) := by
    split
    · exact hraise.levelRequest _ _ _
    · exact hraise
  unfold Machine.expiryActions
  dsimp only
  split
  · exact hlevel.offer _ _
  · exact hlevel

theorem State.ringSound.expiryStop (h : s.ringSound) (n : Fin 4) : (expiryStop n s).ringSound := by
  unfold Machine.expiryStop
  split
  · exact h.stopRequest _
  · exact h

theorem State.ringSound.foldl {α : Type} {f : State → α → State} (hf : ∀ u x, State.ringSound u → (f u x).ringSound)
    (l : List α) (h : s.ringSound) : (l.foldl f s).ringSound :=
  List.foldlRecOn (motive := State.ringSound) l f h fun u hu x _ => hf u x hu

theorem State.ringSound.counterEvent (h : s.ringSound) (ev : CounterEvent) : (counterEvent ev s).ringSound := by
  unfold Machine.counterEvent
  split
  · refine State.ringSound.foldl (fun _ n hu => hu.expiryStop n) _ ?_
    exact State.ringSound.foldl (s := { s with counters := _ }) (fun _ n hu => hu.expiryActions n) _ h
  · exact h

theorem State.ringSound.requestLevel (h : s.ringSound) (level : Option (Fin 16 × Fin 4)) :
    (requestLevel level s).ringSound := by
  unfold Machine.requestLevel
  split
  · exact h.levelRequest _ _ _
  · exact h

theorem State.ringSound.requestStop (h : s.ringSound) (stop : Option (Fin 16)) : (requestStop stop s).ringSound := by
  unfold Machine.requestStop
  split
  · exact h.stopRequest _
  · exact h

theorem State.ringSound.notify (h : s.ringSound) (tag : Fin 8) (notices : BitVec 4) :
    (notify tag notices s).ringSound := by
  unfold Machine.notify
  exact State.ringSound.counterEvent (s := modifyRow tag (fun r => { r with notified := r.notified ||| notices }) s) h _

theorem State.ringSound.raiseHits (h : s.ringSound) (alerts : List (Fin 16 × Fin 4)) :
    (raiseHits alerts s).ringSound := by
  rw [raiseHits_eq]
  exact h

theorem State.ringSound.countHits (h : s.ringSound) (set : BitVec 16) : (countHits set s).ringSound := h

theorem State.ringSound.handOn (h : s.ringSound) (tag : Fin 8) (o : MatchOutcome) : (handOn tag o s).ringSound :=
  (((h.countHits _).raiseHits _).requestLevel _).notify tag _

/-! ### The arbiter (R142, R153) -/

/-- A grant to the Ring Writer makes its next burst the one outstanding. -/
theorem State.ringSound.grantRing (h : s.ringSound) {b : Burst} (hb : s.rw.request = some b) :
    (grantRing b s).ringSound := by
  unfold RingWriter.request at hb
  split at hb
  case isFalse => cases hb
  case isTrue hwriting =>
    cases hp : s.rw.placement with
    | none => simp [hp] at hb
    | some p =>
      have hmem : b ∈ p.bursts := List.mem_of_mem_head? (by simpa [hp] using hb)
      obtain ⟨hw, hnew, hbursts, -⟩ := h.writing hp
      have hr : s.sc.session.records = true := h.works (.inl hw)
      obtain ⟨hd, hwrite, hread⟩ := h.described hr
      refine ringSound_of_writing (p := { p with bursts := p.bursts.tail }) hr hd hwrite hread hw
        (by simp [Machine.grantRing, hp]) hnew (fun c hc => hbursts c (List.mem_of_mem_tail hc)) nofun fun c hc => ?_
      obtain rfl : b = c := Option.some.inj hc
      exact hbursts b hmem

theorem State.ringSound.arbitrate (h : s.ringSound) : (arbitrate s).ringSound := by
  unfold Machine.arbitrate
  split
  · exact h
  split
  case h_1 => exact h
  case h_2 hb => exact h.grantRing hb
  case h_3 => exact h
  case h_4 hb =>
    split
    · exact h.grantRing hb
    · exact h

end Sys2Proof.Machine
end

section
/-! Decisions, gates, the end of a step, FAULT, the responses of memory, the events that fall due and the tick keep the
ring sound. -/

namespace Sys2Proof.Machine

variable {s t : State}

/-! ### The decision (R34, R80 to R86) -/

theorem State.ringSound.writeRecord (h : s.ringSound) (tag : Fin 8) (d : Disposition) (refused : Bool) :
    (writeRecord tag d refused s).ringSound := by
  unfold Machine.writeRecord
  split
  · exact h.makeHit true _
  · exact h

theorem State.ringSound.decideForward (h : s.ringSound) (tag : Fin 8) (d : Disposition) (refused : Bool) :
    (decideForward tag d refused s).ringSound :=
  State.ringSound.writeRecord (s := modifyRow tag (fun r => { r with carry := d, holdRefused := refused }) s) h tag d
    refused

theorem State.ringSound.decideBlock (h : s.ringSound) (tag : Fin 8) (status : RespStatus) :
    (decideBlock tag status s).ringSound := by
  have hmodified : ∀ f, (modifyRow tag f s).ringSound := fun _ => h
  have hdelivered : ∀ u : State, u.ringSound → (deliverRow tag status u).ringSound := fun _ hu => hu
  unfold Machine.decideBlock
  dsimp only
  refine hdelivered _ ?_
  split
  · exact (hmodified _).makeHit true _
  · exact hmodified _

theorem State.ringSound.decideHold (h : s.ringSound) (tag : Fin 8) (entry : Fin 16) :
    (decideHold tag entry s).ringSound := by
  unfold Machine.decideHold
  split
  · split
    case h_1 n _ =>
      unfold park
      exact State.ringSound.raise (s := modifyRow tag _ { s with hold := _ }) h _ _ _
    case h_2 => exact (h.decideForward tag _ _).raiseMapped _ _
  · exact h.decideForward tag _ _

theorem State.ringSound.carryOut (h : s.ringSound) (tag : Fin 8) (v : Verdict) : (carryOut tag v s).ringSound := by
  cases v with
  | forward => exact h.decideForward tag _ _
  | block status => exact h.decideBlock tag status
  | hold entry => exact h.decideHold tag entry

theorem State.ringSound.decideRequest (h : s.ringSound) (tag : Fin 8) (o : MatchOutcome) :
    (decideRequest tag o s).ringSound :=
  ((h.handOn tag o).carryOut tag o.verdict).requestStop o.stop

/-! ### The gates (R31 to R33, R95, R126) -/

theorem State.ringSound.losslessGate (h : s.ringSound) (tag : Fin 8) (o : MatchOutcome) :
    (losslessGate tag o s).ringSound := by
  have hclaimed : ∀ q, ({ s with cq := q } : State).ringSound := fun _ => h
  unfold Machine.losslessGate
  split
  · split
    · exact (hclaimed _).decideRequest tag o
    · exact h
  · exact h.decideRequest tag o

theorem State.ringSound.takeRequest (h : s.ringSound) (r : Request) : (takeRequest r s).ringSound := by
  have htaken : ∀ f, (modifyRow r.tag f s).ringSound := fun _ => h
  unfold Machine.takeRequest
  split <;> exact (htaken _).losslessGate r.tag _

theorem State.ringSound.conflictGate (h : s.ringSound) (r : Request) : (conflictGate r s).ringSound := by
  have hidle : s.unhanded.ringSound := h
  unfold Machine.conflictGate
  split
  · exact h
  · exact hidle.takeRequest r

theorem State.ringSound.readRequest (h : s.ringSound) (r : Request) : (readRequest r s).ringSound := by
  have hanswered : ∀ x, (respond x s).ringSound := fun _ => h
  unfold Machine.readRequest
  split
  · exact h.raiseMapped _ _
  split
  · exact (hanswered _).raiseMapped _ _
  split
  · exact h
  · exact h.conflictGate r

theorem State.ringSound.readOldest (h : s.ringSound) : (readOldest s).ringSound := by
  have hread : ∀ q, ({ s with rqp := q } : State).ringSound := fun _ => h
  unfold Machine.readOldest
  split
  · exact (hread _).readRequest _
  · exact h

/-! ### The end of a step (assumption 7) -/

theorem State.ringSound.loseWaitingRow (h : s.ringSound) (tag : Fin 8) : (loseWaitingRow tag s).ringSound := by
  obtain ⟨x, q, c, heq⟩ := loseWaitingRow_others tag s
  rw [heq]
  exact h

theorem State.ringSound.loseWaitingWrite (h : s.ringSound) : (loseWaitingWrite s).ringSound := by
  have hlost : ∀ tag, (clearDebt tag (if s.rows[tag].owed then countLost 1 s else s)).ringSound := fun tag => by
    split <;> exact h
  unfold Machine.loseWaitingWrite
  split
  · exact (hlost _).decideRequest _ _
  all_goals exact h

theorem State.ringSound.endLosslessWaits (h : s.ringSound) : (endLosslessWaits s).ringSound := by
  unfold Machine.endLosslessWaits
  split
  · exact h
  · exact State.ringSound.loseWaitingWrite
      (h.foldl (fun _ tag hu => hu.loseWaitingRow tag) allTags)

theorem State.ringSound.offerStop (h : s.ringSound) : (offerStop s).ringSound := by
  unfold Machine.offerStop
  split
  · exact h
  · split
    case h_1 u ha =>
      have hadmitted := h.admitBundle ha
      have hplaced : ({ u with sc := { u.sc with stopRecord := .placed } } : State).ringSound := hadmitted
      exact hplaced.takeHead
    case h_2 => exact h

theorem State.ringSound.stopProgress (h : s.ringSound) : (stopProgress s).ringSound := by
  obtain hsame | ⟨-, hoffer⟩ := stopProgress_cases s
  · rwa [hsame]
  · rw [hoffer]
    exact h.offerStop

theorem State.ringSound.resumeWait (h : s.ringSound) : (resumeWait s).ringSound := by
  unfold Machine.resumeWait
  split
  · split
    · exact h
    · exact h.conflictGate _
  · exact h.conflictGate _
  all_goals exact h

/-- The session ends with the Ring Writer idle (R52). -/
theorem State.ringSound.stopComplete (h : s.ringSound) : (stopComplete s).ringSound := by
  unfold Machine.stopComplete
  split
  case isTrue hdone =>
    obtain ⟨hs, -, -, -, hidle⟩ := hdone
    have hw : s.rw.writer = .idle := by
      simp only [RingWriter.isIdle, Bool.and_eq_true, decide_eq_true_eq] at hidle
      exact hidle.1
    obtain ⟨hout, hplacement⟩ := h.unplaced (.inl hw)
    have hstopped : ({ s with sc := { s.sc with session := .stopped } } : State).ringSound :=
      ringSound_of_idle hw hout hplacement (.inr (h.described (by rw [hs]; rfl)))
    exact hstopped.raiseMapped _ _
  case isFalse => exact h

theorem State.ringSound.finish (h : s.ringSound) : (finish s).ringSound :=
  h.endLosslessWaits.stopProgress.resumeWait.endLosslessWaits.stopProgress.stopComplete.arbitrate

/-! ### FAULT (R53) -/

/-- The session enters FAULT once the Ring Writer has given up its placement. -/
theorem State.ringSound.enterFault (h : s.ringSound) (hw : s.rw.writer = .idle) : (enterFault s).ringSound := by
  have habandoned : ∀ u : State, u.ringSound → (abandonStop u).ringSound := fun u hu => by
    unfold abandonStop
    split <;> exact hu
  have hdiscarded : ∀ u : State, u.ringSound → (discardCounted u).ringSound := fun _ hu => hu
  unfold Machine.enterFault
  split
  case isTrue hr =>
    obtain ⟨hout, hplacement⟩ := h.unplaced (.inl hw)
    have hfault : (freeze { s with sc := { s.sc with
        session := .fault, reason := if s.sc.session = .watching then .fault else s.sc.reason } }).ringSound :=
      ringSound_of_idle hw hout hplacement (.inr (h.described hr))
    have hreleased := hdiscarded _ (hfault.releaseBoth ringSoundMake_countLost)
    exact (habandoned _ hreleased.endLosslessWaits).raise _ _ _
  case isFalse => exact h

/-! ### Responses of memory (R37, R142 to R144, R151) -/

theorem ringResponse_of_okay {b : Burst} (h : s.rw.outstanding = some b) (hw : s.rw.writer = .writing) :
    ringResponse .okay s = finish (burstDone b s) := by
  simp only [ringResponse, h, hw]

theorem State.ringSound.lateMatch (h : s.ringSound) (tag : Fin 8) : (lateMatch tag s).ringSound := by
  have hhits : ∀ l f, (Machine.countHits l (modifyRow tag f s)).ringSound := fun _ _ => h
  unfold Machine.lateMatch
  exact ((((hhits _ _).raiseHits _).requestLevel _).notify tag _).requestStop _

theorem State.ringSound.settleRead (h : s.ringSound) (tag : Fin 8) (status : RespStatus) :
    (settleRead tag status s).ringSound := by
  unfold Machine.settleRead
  dsimp only
  split
  · split
    · split
      case h_1 ha => exact (h.admitBundle ha).takeHead
      case h_2 =>
        split
        · exact h
        · exact h.dropRecord
    · exact h
  · exact h

theorem State.ringSound.readResponse (h : s.ringSound) (tag : Fin 8) (status : RespStatus) (words : List Word) :
    (readResponse tag status words s).ringSound := by
  have hfilled : ∀ f, (modifyRow tag f s).ringSound := fun _ => h
  unfold Machine.readResponse
  dsimp only
  split
  · exact ((hfilled _).lateMatch tag).settleRead tag _
  · exact (hfilled _).settleRead tag _

theorem State.ringSound.forwardedResponse (h : s.ringSound) (tag : Fin 8) (status : RespStatus) (words : List Word) :
    (forwardedResponse tag status words s).ringSound := by
  have hdelivered : (deliverRow tag status s).ringSound := h
  have hemptied : (modifyRow tag (fun _ => Row.empty) s).ringSound := h
  unfold Machine.forwardedResponse
  split
  · split
    · exact hdelivered.finish
    · exact (h.readResponse tag status words).finish
  · exact hemptied.finish
  all_goals exact h

theorem State.ringSound.compareWatermark (h : s.ringSound) : (compareWatermark s).ringSound := by
  have hdisarmed : ({ s with rw := { s.rw with armed := false } } : State).ringSound := h
  unfold Machine.compareWatermark
  split
  · exact hdisarmed.raiseMapped _ _
  · exact h

/-- The last burst of a placement is answered (R143). -/
theorem burstDone_of_last {b : Burst} {p : Placement} (hp : s.rw.placement = some p) (hl : p.bursts = []) :
    burstDone b s =
      takeHead (publish p
        { s with rw := { s.rw with outstanding := none, written := s.rw.written + b.words.length } }) := by
  simp only [burstDone, hp, hl, if_true]

/-- A burst of the placement is left (R142). -/
theorem burstDone_of_next {b : Burst} {p : Placement} (hp : s.rw.placement = some p) (hl : p.bursts ≠ []) :
    burstDone b s = { s with rw := { s.rw with outstanding := none, written := s.rw.written + b.words.length } } := by
  simp only [burstDone, hp, if_neg hl]

/-- A placement is published with WRITE in the ring, and the writer is idle (R143). -/
theorem State.ringSound.publish (h : s.ringSound) {p : Placement} (hp : s.rw.placement = some p) (x : Nat) :
    (publish p { s with rw := { s.rw with outstanding := none, written := x } }).ringSound := by
  obtain ⟨hw, hnew, -⟩ := h.writing hp
  obtain ⟨hd, -, hread⟩ := h.described (h.works (.inl hw))
  exact State.ringSound.compareWatermark (ringSound_of_idle rfl rfl rfl (.inr ⟨hd, hnew, hread⟩))

theorem State.ringSound.burstDone (h : s.ringSound) (hw : s.rw.writer = .writing) (b : Burst) :
    (burstDone b s).ringSound := by
  have hr : s.sc.session.records = true := h.works (.inl hw)
  obtain ⟨hd, hwrite, hread⟩ := h.described hr
  cases hp : s.rw.placement with
  | none =>
    obtain ⟨-, hplacement, -⟩ := h
    simp [RingWriter.placementSound, hp, hw] at hplacement
  | some p =>
    obtain ⟨-, hnew, hbursts, -⟩ := h.writing hp
    by_cases hleft : p.bursts = []
    · rw [burstDone_of_last hp hleft]
      exact (h.publish hp _).takeHead
    · rw [burstDone_of_next hp hleft]
      exact ringSound_of_writing hr hd hwrite hread hw hp hnew hbursts (fun _ => hleft) nofun

/-- The Ring Writer gives up its placement (R144). -/
theorem State.ringSound.burstFailed (h : s.ringSound) (hw : s.rw.writer = .writing) : (burstFailed s).ringSound := by
  have hidle : ({ s with rw := { s.rw with
      outstanding := none, writer := .idle, written := 0, placement := none } } : State).ringSound :=
    ringSound_of_idle rfl rfl rfl (.inr (h.described (h.works (.inl hw))))
  exact hidle.enterFault rfl

/-- The end of a burst that belongs to no placement any longer (R147). -/
theorem State.ringSound.burstOver (h : s.ringSound) (hw : s.rw.writer ≠ .writing) :
    ({ s with rw := { s.rw with outstanding := none, writer := .idle } } : State).ringSound := by
  have hplacement : s.rw.placement = none := by
    cases hp : s.rw.placement with
    | none => rfl
    | some p => exact absurd (h.writing hp).1 hw
  exact ringSound_of_idle rfl rfl hplacement (h.1.imp (fun ⟨hb, hl, hr⟩ => ⟨hr, hb, hl⟩) id)

theorem State.ringSound.ringResponse (h : s.ringSound) (status : RespStatus) : (ringResponse status s).ringSound := by
  cases hout : s.rw.outstanding with
  | none => rwa [ringResponse_of_none hout]
  | some b =>
    by_cases hw : s.rw.writer = .writing
    · cases status with
      | okay =>
        rw [ringResponse_of_okay hout hw]
        exact (h.burstDone hw b).finish
      | error =>
        rw [ringResponse_of_error hout hw]
        exact (h.burstFailed hw).finish
    · rw [ringResponse_of_over hout hw]
      exact (h.burstOver hw).takeHead.finish

/-! ### Events that fall due -/

theorem State.ringSound.gatePass (h : s.ringSound) : (gatePass s).ringSound := by
  have hclaimed : ∀ p q, ({ s with rqp := p, cq := q } : State).ringSound := fun _ _ => h
  unfold Machine.gatePass
  split
  · split
    · exact ((hclaimed _ _).decideRequest _ _).finish
    · exact h
  all_goals exact h

theorem State.ringSound.placeWaiting (h : s.ringSound) (tag : Fin 8) : (placeWaiting tag s).ringSound := by
  have hdelivered : ∀ (u : State) (status : RespStatus), u.ringSound →
      (deliverRow tag status (clearDebt tag u)).ringSound := fun _ _ hu => hu
  unfold Machine.placeWaiting
  split
  · split
    · split
      case h_1 ha => exact (hdelivered _ _ (h.admitBundle ha).takeHead).finish
      case h_2 => exact h
    · exact h
  · exact h

theorem State.ringSound.reofferStop (h : s.ringSound) : (reofferStop s).ringSound := by
  unfold Machine.reofferStop
  split
  · exact h.offerStop.finish
  · exact h

theorem State.ringSound.stallDrop (h : s.ringSound) (tag : Fin 8) : (stallDrop tag s).ringSound := by
  have hseen : ({ Machine.dropRecord s with
      rbl := { (Machine.dropRecord s).rbl with losslessSeen := true } } : State).ringSound := h.dropRecord
  exact hseen.raiseMapped _ _

theorem State.ringSound.stallTimeout (h : s.ringSound) (tag : Fin 8) : (stallTimeout tag s).ringSound := by
  have hwrite : (stallWrite tag s).ringSound := by
    unfold stallWrite
    split
    · split
      · exact ((h.stallDrop tag).decideRequest tag _).finish
      · exact h
    all_goals exact h
  have hdelivered : ∀ status, (deliverRow tag status (Machine.stallDrop tag s)).ringSound := fun _ => h.stallDrop tag
  unfold Machine.stallTimeout stallRead
  split
  · split
    · split
      · exact (hdelivered _).finish
      · exact h
    · exact h
  all_goals exact hwrite

theorem State.ringSound.expireCounters (h : s.ringSound) : (expireCounters s).ringSound := by
  unfold Machine.expireCounters
  split
  · exact (h.counterEvent _).finish
  · exact h

theorem State.ringSound.holdExpire (h : s.ringSound) (n : Fin 2) : (holdExpire n s).ringSound := by
  unfold Machine.holdExpire
  split
  · exact ((h.releaseSlot (ringSoundMake_makeHit false) n _ _).raise _ _ _).finish
  · exact h

theorem State.ringSound.autonomousGap (h : s.ringSound) : (autonomousGap s).ringSound := by
  unfold Machine.autonomousGap
  split
  · split
    · have hplaced := h.append [gapRecord Config.autoGapCount]
      generalize Machine.append [gapRecord Config.autoGapCount] s = u at hplaced ⊢
      have hmoved : ({ u with rbl := { u.rbl with refTime := u.rbl.refTime + Config.autoGapAge } } : State).ringSound :=
        hplaced
      exact hmoved.takeHead.finish
    · exact h
  · exact h

/-! ### The tick (R63) -/

theorem State.ringSound.settle (h : s.ringSound) : (settle s).ringSound := by
  have hplaced := h.gatePass.foldl (f := fun u tag => Machine.placeWaiting tag u) (fun _ tag hu => hu.placeWaiting tag)
    allTags
  unfold Machine.settle
  dsimp only
  generalize allTags.foldl (fun u tag => Machine.placeWaiting tag u) (Machine.gatePass s) = u at hplaced ⊢
  have hheld := (hplaced.reofferStop.autonomousGap.expireCounters.holdExpire 0).holdExpire 1
  generalize Machine.holdExpire 1 _ = v at hheld ⊢
  exact hheld.foldl (f := fun u tag => Machine.stallTimeout tag u) (fun _ tag hu => hu.stallTimeout tag) allTags

theorem State.ringSound.countTick (h : s.ringSound) : (countTick s).ringSound := h

theorem State.ringSound.tick (h : s.ringSound) : (tick s).ringSound := by
  unfold Machine.tick
  split
  · exact h
  · exact h.settle.countTick

end Sys2Proof.Machine
end

section
/-! Every command, and every cycle of CLK, keeps the ring sound (obligation O59). -/

namespace Sys2Proof.Machine

variable {s t : State}

/-! ### Requests and resets (R31, R42, R172) -/

theorem State.ringSound.request (h : s.ringSound) (r : Option Request) (he : exec (.request r) s = .next t) :
    t.ringSound := by
  have hpresented : ({ s with rqp := { s.rqp with presented := s.rqp.presented ++ r.toList } } : State).ringSound := h
  cases he
  split
  · exact hpresented.readOldest.finish
  · exact hpresented

theorem State.ringSound.pathReset (h : s.ringSound) : (pathReset s).ringSound := by
  have hcleared : (clearPath s).ringSound := h
  unfold Machine.pathReset
  split
  · exact h
  · exact (hcleared.raiseMapped _ _).finish

theorem State.ringSound.endPathReset (h : s.ringSound) : (endPathReset s).ringSound := by
  have hreleased : ({ s with lines := { s.lines with prst := false } } : State).ringSound := h
  unfold Machine.endPathReset
  split
  · exact hreleased.readOldest.finish
  · exact h

theorem State.ringSound.releaseReset (h : s.ringSound) : (releaseReset s).ringSound := by
  have hreleased : ({ s with lines := { s.lines with reset := false } } : State).ringSound := h
  unfold Machine.releaseReset
  split
  · exact hreleased.readOldest.finish
  · exact h

/-- A device reset leaves no ring (R172). -/
theorem ringSound_resetPart (s : State) : (resetPart s).ringSound :=
  ringSound_of_idle rfl rfl rfl (.inl ⟨rfl, rfl, rfl⟩)

theorem State.ringSound.assertCs (h : s.ringSound) : (assertCs s).ringSound := by
  unfold Machine.assertCs
  dsimp only
  repeat' split
  all_goals exact h

theorem State.ringSound.deassertCs (h : s.ringSound) (f : FrameState) : (deassertCs f s).ringSound := by
  unfold Machine.deassertCs
  split <;> exact h

/-! ### Commands of the Management Port -/

theorem State.ringSound.takeCommand {n : Nat} {act : State → State × List Byte} (h : s.ringSound)
    (hact : (act s).1.ringSound) : (takeCommand n act s).ringSound := by
  unfold Machine.takeCommand
  split
  · exact hact
  · exact h

/-- The descriptor that a PUT RING brings has passed its checks (R135). -/
theorem described_of_descriptorOf {b : Bytes 13} {d : Descriptor} (hd : descriptorOf b = some d) {r : RingWriter}
    (hbase : r.base = d.base) (hlimit : r.limit = d.limit) (hmark : r.watermark = d.watermark) : r.described := by
  simp only [descriptorOf, Option.bind_eq_some_iff, Option.ite_none_right_eq_some, Option.some.injEq] at hd
  obtain ⟨mode, -, ⟨halign, halign', hsmall, hlarge, hone, hbelow⟩, rfl⟩ := hd
  rw [RingWriter.described, RingWriter.size, hbase, hlimit, hmark]
  exact ⟨halign, halign', hsmall, hlarge, hone, hbelow⟩

/-- A PUT RING comes while nothing is being placed: both pointers go to BASE of the new ring (R135). -/
theorem State.ringSound.putRing (h : s.ringSound) (b : Bytes 13) : (putRing b s).1.ringSound := by
  unfold Machine.putRing
  split
  case isTrue => exact h
  case isFalse hr =>
    rw [Bool.not_eq_true] at hr
    split
    case h_2 => exact h
    case h_1 d hd =>
      obtain ⟨hwriting, hwait, hplacement⟩ := h.no_placement hr
      obtain ⟨-, -, hout, -⟩ := h
      have hdescribed := fun x => described_of_descriptorOf hd (r := { s.rw with
        base := d.base, limit := d.limit, mode := d.mode, watermark := d.watermark, write := d.base, read := d.base,
        ringDone := false, armed := x }) rfl rfl rfl
      refine ⟨.inr ⟨hdescribed true, (hdescribed true).holds_base, (hdescribed true).holds_base⟩, ?_, ?_,
        fun hw => hw.elim (absurd · hwriting) (absurd · hwait), fun hw => absurd hw hwait⟩
      · simpa [RingWriter.placementSound, accept, hplacement] using hwriting
      · simp only [RingWriter.outstandingSound] at hout
        simp only [RingWriter.outstandingSound, accept]
        split
        case h_1 ho => rwa [ho] at hout
        case h_2 ho => simpa [ho, hwriting] using hout

/-- ARM finds a ring, which is empty then, and no placement in progress (R46, R47). -/
theorem State.ringSound.arm (h : s.ringSound) : (arm s).1.ringSound := by
  unfold Machine.arm
  split
  case isFalse => exact h
  case isTrue hs =>
    split
    case isFalse => exact h
    case isTrue hvalid =>
      have hr : s.sc.session.records = false := by obtain hs | hs := hs <;> rw [hs] <;> rfl
      obtain ⟨hwriting, hwait, -⟩ := h.no_placement hr
      obtain ⟨⟨hbase, hlimit, -⟩ | ⟨hd, -⟩, hplacement, hout, -⟩ := h
      · simp [RingWriter.valid, hbase, hlimit] at hvalid
      · have harmed : (armSession s).ringSound := ⟨.inr ⟨hd, hd.holds_base, hd.holds_base⟩, hplacement, hout,
          fun _ => rfl, fun hw => absurd hw hwait⟩
        exact harmed.takeHead.arbitrate

/-- READ moves within the ring, and a writer that waits for space places the record where it has room now (R145,
R146). -/
theorem State.ringSound.moveRead (h : s.ringSound) {v : Word} (hd : s.rw.described) (hv : s.rw.holds v) :
    (moveRead v s).ringSound := by
  have hmoved : ∀ x, ({ s with rw := { s.rw with read := v, armed := x } } : State).ringSound := by
    obtain ⟨⟨hbase, hlimit, -⟩ | ⟨-, hwrite, -⟩, hrest⟩ := h
    · rw [RingWriter.holds, hbase, hlimit] at hv
      exact absurd hv.2.2 (Nat.not_lt_zero _)
    · exact fun x => ⟨.inr ⟨hd, hwrite, hv⟩, hrest⟩
  have hform : ∀ u : State, u.ringSound →
      (if u.rw.writer = .waitSpace then Machine.formPlacement u else u).ringSound := fun u hu => by
    split
    case isTrue hw => exact hu.formPlacement (hu.works (.inr hw)) (.inr hw)
    case isFalse => exact hu
  unfold Machine.moveRead
  dsimp only
  refine hform _ ?_
  split
  · exact hmoved _
  · exact hmoved _

theorem State.ringSound.readptr (h : s.ringSound) (v : Word) : (readptr v s).1.ringSound := by
  unfold Machine.readptr
  split
  · exact h
  split
  case isFalse => exact h
  case isTrue hv =>
    split
    case isFalse => exact h
    case isTrue =>
      have hd : s.rw.described := by
        obtain ⟨⟨hbase, hlimit, -⟩ | ⟨hd, -⟩, -⟩ := h
        · rw [hbase, hlimit] at hv
          exact absurd hv.2.2 (Nat.not_lt_zero _)
        · exact hd
      exact (h.moveRead hd hv).arbitrate

theorem State.ringSound.releaseChecked (h : s.ringSound) (n : Fin 2) (ticket : Byte) (d : Disposition) (count : Nat)
    (words : List Word) : (releaseChecked n ticket d count words s).1.ringSound := by
  unfold Machine.releaseChecked
  split
  · exact h
  split
  · exact h
  split
  · exact h
  split
  · exact h
  · exact (h.releaseSlot (ringSoundMake_makeHit false) n d words).finish

theorem State.ringSound.release (h : s.ringSound) (slot ticket disposition count : Byte) (words : List Word) :
    (release slot ticket disposition count words s).1.ringSound := by
  unfold Machine.release
  split
  · exact h
  split
  · exact h.releaseChecked _ _ _ _ _
  · exact h

theorem State.ringSound.ack (h : s.ringSound) : (ack s).1.ringSound := by
  unfold Machine.ack
  repeat' split
  all_goals exact h

theorem State.ringSound.done (h : s.ringSound) : (done s).1.ringSound := by
  unfold Machine.done
  split <;> exact h

/-! ### Session commands -/

/-- The Ring Writer has given up its work, but for the burst that it abandons (R147). -/
theorem State.ringSound.restartBlocks (h : s.ringSound) : (restartBlocks s).ringSound := by
  obtain ⟨hd, -⟩ := h
  refine ⟨hd.imp (fun ⟨hb, hl, _⟩ => ⟨hb, hl, rfl⟩) id, ?_, ?_, ?_, ?_⟩
  all_goals
    cases hout : s.rw.outstanding <;>
      simp [RingWriter.placementSound, RingWriter.outstandingSound, Machine.restartBlocks, RingWriter.abandon, hout]

theorem State.ringSound.restart (h : s.ringSound) : (restart s).1.ringSound := by
  have hstripped : (mapRows Row.strip (Machine.restartBlocks s)).ringSound := h.restartBlocks
  have hwaiting : ∀ (u : State) (tag : Fin 8), u.ringSound → (deliverWaiting tag u).ringSound := fun u tag hu => by
    unfold deliverWaiting
    split <;> exact hu
  have hheld : ∀ u : State, u.ringSound → (forwardHeld u).ringSound := fun u hu => by
    unfold forwardHeld
    split
    · exact hu.decideRequest _ _
    all_goals exact hu
  unfold Machine.restart accept
  dsimp only
  generalize mapRows Row.strip (Machine.restartBlocks s) = u at hstripped ⊢
  have hdelivered := hstripped.foldl (f := fun v tag => deliverWaiting tag v) hwaiting allTags
  exact ((hheld _ hdelivered).releaseBoth (ringSoundMake_makeHit false)).finish

theorem State.ringSound.stop (h : s.ringSound) : (stop s).1.ringSound := by
  unfold Machine.stop
  split
  · exact (h.stopRequest _).finish
  · exact h

theorem State.ringSound.clear (h : s.ringSound) : (clear s).1.ringSound := by
  by_cases hs : s.sc.session = .fault
  · rw [clear_of_fault hs]
    exact h.congr rfl (by rw [hs]; rfl)
  · rwa [clear_of_not_fault hs]

theorem State.ringSound.level (h : s.ringSound) (v : Byte) : (level v s).1.ringSound := by
  unfold Machine.level
  split
  · split
    · exact (h.levelRequest _ _ _).finish
    · exact h
  · exact h

theorem State.ringSound.mark (h : s.ringSound) (v : Word) : (mark v s).1.ringSound := by
  unfold Machine.mark
  split
  · split
    case h_1 ha => exact (h.admitBundle ha).takeHead.finish
    case h_2 => exact h
  · exact h

/-! ### PUT, ENABLE and DISABLE -/

theorem State.ringSound.putHold (h : s.ringSound) (b : Bytes 5) : (putHold b s).1.ringSound := by
  have hboth : ∀ u : State, u.ringSound → (expireBoth u).ringSound := fun u hu => by
    have hchosen : ({ u with choices := u.choices + 1 } : State).ringSound := hu
    unfold expireBoth
    split
    · dsimp only
      split
      · exact (hchosen.holdExpire 1).holdExpire 0
      · exact (hchosen.holdExpire 0).holdExpire 1
    · exact (hu.holdExpire 0).holdExpire 1
  unfold Machine.putHold
  split
  · exact hboth _ h
  · exact h

theorem State.ringSound.putSession (h : s.ringSound) (b : Bytes 4) : (putSession b s).1.ringSound := by
  unfold Machine.putSession
  repeat' split
  all_goals exact h

theorem State.ringSound.putTimebase (h : s.ringSound) (b : Bytes 1) : (putTimebase b s).1.ringSound := by
  unfold Machine.putTimebase
  repeat' split
  all_goals exact h

theorem State.ringSound.putAlertmap (h : s.ringSound) (b : Bytes 9) : (putAlertmap b s).1.ringSound := by
  unfold Machine.putAlertmap
  split <;> exact h

theorem State.ringSound.putEntry (h : s.ringSound) (n : Fin 16) (b : Bytes 28) : (putEntry n b s).1.ringSound := by
  unfold Machine.putEntry
  repeat' split
  all_goals exact h

theorem State.ringSound.putCounter (h : s.ringSound) (n : Fin 4) (b : Bytes 11) : (putCounter n b s).1.ringSound := by
  unfold Machine.putCounter
  repeat' split
  all_goals exact h

theorem State.ringSound.setEnabled (h : s.ringSound) (n : Byte) (on : Bool) : (setEnabled n on s).1.ringSound := by
  unfold Machine.setEnabled
  split <;> exact h

/-! ### Every command -/

theorem ringSound_exec {c : Instr} (h : s.ringSound) (he : exec c s = .next t) : t.ringSound := by
  cases c with
  | request r => exact h.request r he
  | losslessGatePass => cases he; exact h.gatePass
  | respondingRecordPlaced tag => cases he; exact h.placeWaiting tag
  | stopRecordReoffer => cases he; exact h.reofferStop
  | losslessStallTimeout tag => cases he; exact h.stallTimeout tag
  | responseDelivery n =>
    cases he
    split <;> exact h
  | memoryResponse m =>
    cases he
    split
    · exact h.forwardedResponse _ _ _
    · exact h.ringResponse _
  | portReturnToReady =>
    have hready : ({ s with mpa := { s.mpa with port := .ready } } : State).ringSound := h
    cases he
    split
    · exact hready.arbitrate
    · exact h
  | tick => cases he; exact h.tick
  | counterExpiry => cases he; exact h.expireCounters
  | holdTimeout n => cases he; exact h.holdExpire n
  | autonomousGap => cases he; exact h.autonomousGap
  | pathReset => cases he; exact h.pathReset
  | prstDeasserted => cases he; exact h.endPathReset
  | deviceReset | powerOn => cases he; exact ringSound_resetPart s
  | resetRelease => cases he; exact h.releaseReset
  | truncatedFrame | frameEnd | csDeassertedAfterReset => cases he; exact h.deassertCs _
  | frameStart => cases he; exact h.assertCs
  | unknownCommand code | getUnknownItem code =>
    cases he
    split
    · exact h
    · exact h.takeCommand h
  | getEntry n =>
    cases he
    exact h.takeCommand (by cases entryNumber n <;> exact h)
  | putUnsupportedItem code =>
    cases he
    split
    · split
      · exact h.takeCommand h
      · exact h
    · exact h.takeCommand h
  | status | getSession | getRing | getHold | getTimebase | getAlertmap | getTotals | getCounter | getSlot
  | getInflight => cases he; exact h.takeCommand h
  | putSession b => cases he; exact h.takeCommand (h.putSession b)
  | putRing b => cases he; exact h.takeCommand (h.putRing b)
  | putHold b => cases he; exact h.takeCommand (h.putHold b)
  | putTimebase b => cases he; exact h.takeCommand (h.putTimebase b)
  | putAlertmap b => cases he; exact h.takeCommand (h.putAlertmap b)
  | putEntry n b => cases he; exact h.takeCommand (h.putEntry n b)
  | putCounter n b => cases he; exact h.takeCommand (h.putCounter n b)
  | enable n => cases he; exact h.takeCommand (h.setEnabled n true)
  | disable n => cases he; exact h.takeCommand (h.setEnabled n false)
  | arm => cases he; exact h.takeCommand h.arm
  | stop => cases he; exact h.takeCommand h.stop
  | restart => cases he; exact h.takeCommand h.restart
  | clear => cases he; exact h.takeCommand h.clear
  | level v => cases he; exact h.takeCommand (h.level v)
  | readptr v => cases he; exact h.takeCommand (h.readptr v)
  | mark v => cases he; exact h.takeCommand (h.mark v)
  | release slot ticket disposition count words =>
    cases he
    split
    · exact h
    · exact h.takeCommand (h.release slot ticket disposition count words)
  | ack => cases he; exact h.takeCommand h.ack
  | done => cases he; exact h.takeCommand h.done

/-- A cycle of CLK moves the phase, or is a tick (R63). -/
theorem State.ringSound.clkCycle (h : s.ringSound) : (clkCycle s).ringSound := by
  unfold Machine.clkCycle
  split
  · exact h
  split
  · exact h.tick
  · exact h

theorem ringSound_step (h : s.ringSound) (hs : step s = .next t) : t.ringSound := by
  unfold step at hs
  split at hs
  case h_1 c rest _ => exact ringSound_exec (s := { s with pending := rest }) h hs
  case h_2 =>
    cases hs
    exact h.clkCycle

end Sys2Proof.Machine

namespace Sys2Proof.Proofs.TheRingWriter

open Sys2Proof.Machine

/-- Settles O59: the ring's part of the invariants is kept by every step, whatever the others say. -/
theorem ringInvariant : Obligations.RingInvariant := by
  rintro s t ⟨-, -, -, hring⟩ hs
  exact ringSound_step hring hs

end Sys2Proof.Proofs.TheRingWriter
end

section
/-! PUT RING (R135) and READPTR (R145, R146): obligations O13 and O31. -/

namespace Sys2Proof.Machine

variable {s : State}

/-! ### PUT RING, in the order of its checks (R135) -/

theorem exec_putRing (b : Bytes 13) (s : State) :
    exec (.putRing b) s = .next (takeCommand 14 (putRing b) s) := rfl

/-- The ring mode of a mode byte (TABLE 11.9). -/
theorem ringMode_of_code {b : Byte} (h : b.toNat ≤ 1) :
    (if b = 0#8 then some RingMode.loop else if b = 1#8 then some .once else none) =
      some (if b = 0#8 then .loop else .once) := by
  have hcode : b = 0#8 ∨ b = 1#8 := by bv_omega
  obtain rfl | rfl := hcode <;> rfl

theorem no_ringMode_of_code {b : Byte} (h : 1 < b.toNat) :
    (if b = 0#8 then some RingMode.loop else if b = 1#8 then some .once else none) = none := by
  rw [if_neg (by bv_omega), if_neg (by bv_omega)]

/-- The descriptors that R135 refuses. -/
theorem descriptorOf_of_bad {b : Bytes 13} {base limit mark : Nat}
    (hbase : base = (wordOfBytes b[0] b[1] b[2] b[3]).toNat) (hlimit : limit = (wordOfBytes b[4] b[5] b[6] b[7]).toNat)
    (hmark : mark = (wordOfBytes b[9] b[10] b[11] b[12]).toNat)
    (h : base % 32 ≠ 0 ∨ limit % 32 ≠ 0 ∨ limit ≤ base ∨ limit - base < 64 ∨ 16777216 < limit - base ∨
      1 < b[8].toNat ∨ mark = 0 ∨ (limit - base) / 4 ≤ mark) : descriptorOf b = none := by
  by_cases hmode : 1 < b[8].toNat
  · simp only [descriptorOf, no_ringMode_of_code hmode, Option.bind_none]
  · rw [Nat.not_lt] at hmode
    simp only [descriptorOf, ringMode_of_code hmode, Option.bind_some, ← hbase, ← hlimit, ← hmark]
    exact if_neg (by omega)

theorem descriptorOf_of_good {b : Bytes 13} {base limit mark : Nat}
    (hbase : base = (wordOfBytes b[0] b[1] b[2] b[3]).toNat) (hlimit : limit = (wordOfBytes b[4] b[5] b[6] b[7]).toNat)
    (hmark : mark = (wordOfBytes b[9] b[10] b[11] b[12]).toNat)
    (h : base % 32 = 0 ∧ limit % 32 = 0 ∧ base + 64 ≤ limit ∧ limit ≤ base + 16777216 ∧ 1 ≤ mark ∧
      mark < (limit - base) / 4) (hmode : b[8].toNat ≤ 1) :
    descriptorOf b =
      some { base := wordOfBytes b[0] b[1] b[2] b[3], limit := wordOfBytes b[4] b[5] b[6] b[7],
             mode := if b[8] = 0#8 then .loop else .once, watermark := mark } := by
  simp only [descriptorOf, ringMode_of_code hmode, Option.bind_some, ← hbase, ← hlimit, ← hmark]
  exact if_pos h

theorem putRing_of_state {b : Bytes 13} (h : s.sc.session ∈ [.watching, .stopping]) :
    putRing b s = (s, [0x02#8]) := by
  rw [putRing, (Session.records_iff _).2 h]
  rfl

theorem putRing_of_badarg {b : Bytes 13} (h : s.sc.session ∈ [.off, .stopped, .fault]) (hb : descriptorOf b = none) :
    putRing b s = (s, [0x03#8]) := by
  rw [putRing, (no_session_iff _).2 h, hb]
  rfl

theorem putRing_of_taken {b : Bytes 13} {d : Descriptor} (h : s.sc.session ∈ [.off, .stopped, .fault])
    (hb : descriptorOf b = some d) :
    putRing b s =
      ({ s with
         rw := { s.rw with
           base := d.base, limit := d.limit, mode := d.mode, watermark := d.watermark, write := d.base,
           read := d.base, ringDone := false, armed := true } }, [0x00#8]) := by
  rw [putRing, (no_session_iff _).2 h, hb]
  rfl

/-! ### Distances around the ring (R136, R145) -/

/-- The distance from one word of the ring forward to another, past LIMIT where the other lies behind. -/
theorem RingWriter.described.distance_eq {r : RingWriter} {a b : Word} (h : r.described) (ha : r.holds a)
    (hb : r.holds b) :
    r.distance a b =
      if a.toNat ≤ b.toNat then (b.toNat - a.toNat) / 4 else r.size - (a.toNat - b.toNat) / 4 := by
  have hsize := h.four_mul_size
  obtain ⟨haligned, habove, hbelow⟩ := ha
  obtain ⟨hbaligned, hbabove, hbbelow⟩ := hb
  unfold RingWriter.distance
  split
  case isTrue hle =>
    have hround : (b.toNat + (r.limit.toNat - r.base.toNat) - a.toNat) / 4 = (b.toNat - a.toNat) / 4 + r.size := by
      omega
    rw [hround, Nat.add_mod_right, Nat.mod_eq_of_lt (by omega)]
  case isFalse hlt =>
    have hround : (b.toNat + (r.limit.toNat - r.base.toNat) - a.toNat) / 4 = r.size - (a.toNat - b.toNat) / 4 := by
      omega
    rw [hround, Nat.mod_eq_of_lt (by omega)]

/-- READ moves no further than WRITE, and the used space falls by as much as it moves (R145). -/
theorem RingWriter.described.distance_sub {r : RingWriter} {a b c : Word} (h : r.described) (ha : r.holds a)
    (hb : r.holds b) (hc : r.holds c) (hle : r.distance a b ≤ r.distance a c) :
    r.distance b c = r.distance a c - r.distance a b := by
  have hsize := h.four_mul_size
  rw [h.distance_eq ha hb, h.distance_eq ha hc] at hle ⊢
  rw [h.distance_eq hb hc]
  obtain ⟨haligned, habove, hbelow⟩ := ha
  obtain ⟨hbaligned, hbabove, hbbelow⟩ := hb
  obtain ⟨hcaligned, hcabove, hcbelow⟩ := hc
  split_ifs at hle ⊢ <;> omega

/-! ### READPTR, in the order of its checks (R145, R146) -/

theorem exec_readptr (v : Word) (s : State) : exec (.readptr v) s = .next (takeCommand 4 (readptr v) s) := rfl

theorem readptr_of_state {v : Word} (h : s.sc.session = .off ∨ s.rw.mode = .once) : readptr v s = (s, [0x02#8]) := by
  rw [readptr, if_pos h]
  rfl

theorem not_readptr_state (hs : s.sc.session ≠ .off) (hm : s.rw.mode = .loop) :
    ¬ (s.sc.session = .off ∨ s.rw.mode = .once) := by
  rw [hm]
  exact not_or.2 ⟨hs, nofun⟩

theorem readptr_of_outside {v : Word} (hs : s.sc.session ≠ .off) (hm : s.rw.mode = .loop) (hv : ¬ s.rw.holds v) :
    readptr v s = (s, [0x03#8]) := by
  rw [readptr, if_neg (not_readptr_state hs hm), if_neg hv]
  rfl

theorem readptr_of_far {v : Word} (hs : s.sc.session ≠ .off) (hm : s.rw.mode = .loop) (hv : s.rw.holds v)
    (hfar : s.rw.used < s.rw.distance s.rw.read v) : readptr v s = (s, [0x03#8]) := by
  rw [readptr, if_neg (not_readptr_state hs hm), if_pos hv, if_neg (Nat.not_le_of_lt hfar)]
  rfl

theorem readptr_of_taken {v : Word} (hs : s.sc.session ≠ .off) (hm : s.rw.mode = .loop) (hv : s.rw.holds v)
    (hfar : s.rw.distance s.rw.read v ≤ s.rw.used) : readptr v s = (arbitrate (moveRead v s), [0x00#8]) := by
  rw [readptr, if_neg (not_readptr_state hs hm), if_pos hv, if_pos hfar]
  rfl

/-- The state with READ at `v` and the watermark armed where the used space has fallen below it (R145, R146). -/
def State.readAt (s : State) (v : Word) : State :=
  { s with rw := { s.rw with
    read := v, armed := s.rw.armed || decide (s.rw.distance v s.rw.write < s.rw.watermark) } }

theorem moveRead_eq (v : Word) (s : State) :
    moveRead v s = if s.rw.writer = .waitSpace then formPlacement (s.readAt v) else s.readAt v := by
  have hform : ∀ u : State, u = s.readAt v → (if u.rw.writer = .waitSpace then formPlacement u else u) =
      if s.rw.writer = .waitSpace then formPlacement (s.readAt v) else s.readAt v := by
    rintro u rfl
    rfl
  refine hform _ ?_
  have hused : ({ s.rw with read := v } : RingWriter).used = s.rw.distance v s.rw.write := rfl
  dsimp only [State.readAt]
  rw [hused]
  split
  case isTrue hlow => simp [hlow]
  case isFalse hhigh => simp [hhigh]

end Sys2Proof.Machine

namespace Sys2Proof.Proofs.TheRingWriter

open Sys2Proof.Machine

/-- Settles O13, one check after the other. -/
theorem putRing : Obligations.PutRing := by
  intro b s base limit mark hf hbase hlimit hmark
  rw [exec_putRing, takeCommand_of_receiving hf]
  refine ⟨fun hs => ?state, fun hs hbad => ?badarg, fun hs h1 h2 h3 h4 h5 hmode h6 h7 => ?taken⟩
  case state => rw [putRing_of_state hs]
  case badarg => rw [putRing_of_badarg hs (descriptorOf_of_bad hbase hlimit hmark hbad)]
  case taken =>
    rw [putRing_of_taken hs (descriptorOf_of_good hbase hlimit hmark
      ⟨h1, h2, by omega, by omega, Nat.pos_of_ne_zero h6, h7⟩ hmode)]

/-- Settles O31: the checks, and READ moved by a distance that the used space falls by. -/
theorem readptrCommand : Obligations.ReadptrCommand := by
  intro v s far used hf
  rw [exec_readptr, takeCommand_of_receiving hf]
  refine ⟨fun hs => by rw [readptr_of_state hs], fun hs hm hv => by rw [readptr_of_outside hs hm hv],
    fun hs hm hd hv hread hwrite hfar hused => ?_⟩
  have hfar' : s.rw.distance s.rw.read v = far := (hd.distance_eq hread hv).trans hfar.symm
  have hused' : s.rw.used = used := (hd.distance_eq hread hwrite).trans hused.symm
  have hmoved : far ≤ used → s.readAt v = { s with rw := { s.rw with
      read := v, armed := s.rw.armed || decide (used - far < s.rw.watermark) } } := by
    intro hle
    have hdist := hd.distance_sub hread hv hwrite (hfar'.trans_le (hle.trans_eq hused'.symm))
    rw [State.readAt, hdist, hfar', ← hused']
    rfl
  refine ⟨fun hlt => ?badarg, fun hle hw hg => ?moved, fun hle hw => ?waiting⟩
  case badarg => rw [readptr_of_far hs hm hv (by rwa [hfar', hused'])]
  case moved =>
    rw [readptr_of_taken hs hm hv (by rwa [hfar', hused']), moveRead_eq, if_neg hw, hmoved hle]
    exact congrArg (fun u : State => Host.Outcome.next (u.answered 4 [0x00#8])) (arbitrate_of_noGrant hg)
  case waiting => rw [readptr_of_taken hs hm hv (by rwa [hfar', hused']), moveRead_eq, if_pos hw, hmoved hle]

end Sys2Proof.Proofs.TheRingWriter
end

section
/-! Where the head record goes, by the room up to LIMIT and the free space (R136 to R141, R143): the first part of
obligation O28. -/

namespace Sys2Proof.Machine

variable {r : RingWriter} {h : Record}

/-! ### Where WRITE stands after a run (R143) -/

theorem cutRun_singleton (a w : Word) : cutRun a [w] = [{ address := a, words := [w] }] := by
  have hone : burstSize a 1 = 1 := by simp [burstSize]
  rw [cutRun_cons]
  simp only [List.length_singleton, hone, List.take_succ_cons, List.take_zero, List.drop_succ_cons, List.drop_zero,
    cutRun_nil]

theorem wrapRecord_words : wrapRecord.words = [0xF1000000#32] := by decide

/-- A run that ends below LIMIT leaves WRITE right after it. -/
theorem RingWriter.advance_of_below {a : Word} {n : Nat} (hend : a.toNat + 4 * n < r.limit.toNat) :
    r.advance a n = a + BitVec.ofNat 32 (4 * n) := by
  refine if_neg fun heq => ?_
  have hnext := toNat_add_words (Nat.lt_trans hend r.limit.isLt)
  rw [heq] at hnext
  omega

/-- A run that ends at LIMIT leaves WRITE at BASE. -/
theorem RingWriter.advance_of_limit {a : Word} {n : Nat} (hend : a.toNat + 4 * n = r.limit.toNat) :
    r.advance a n = r.base := by
  refine if_pos (BitVec.eq_of_toNat_eq ?_)
  rw [toNat_add_words (by rw [hend]; exact r.limit.isLt), hend]

theorem RingWriter.described.advance_write (hr : r.described) (hw : r.holds r.write) (hfit : h.length ≤ r.toLimit) :
    r.advance r.write h.length =
      if h.length = r.toLimit then r.base else r.write + BitVec.ofNat 32 (4 * h.length) := by
  have htail := hr.four_mul_toLimit hw
  obtain ⟨-, -, hbelow⟩ := hw
  split
  · exact RingWriter.advance_of_limit (by omega)
  · exact RingWriter.advance_of_below (by omega)

theorem RingWriter.described.advance_base (hr : r.described) (hfit : h.length < r.size) :
    r.advance r.base h.length = r.base + BitVec.ofNat 32 (4 * h.length) := by
  have hsize := hr.four_mul_size
  exact RingWriter.advance_of_below (by omega)

/-! ### The placements (R138, R139, R140) -/

theorem RingWriter.described.single_eq (hr : r.described) (hw : r.holds r.write) (hfit : h.length ≤ r.toLimit) :
    r.single h =
      { wrapAlone := false, bursts := cutRun r.write h.words,
        newWrite := if h.length = r.toLimit then r.base else r.write + BitVec.ofNat 32 (4 * h.length) } := by
  rw [RingWriter.single, hr.advance_write hw hfit]

theorem RingWriter.described.wrapping_eq (hr : r.described) (hfit : h.length < r.size) :
    r.wrapping h =
      { wrapAlone := false, bursts := { address := r.write, words := [0xF1000000#32] } :: cutRun r.base h.words,
        newWrite := r.base + BitVec.ofNat 32 (4 * h.length) } := by
  rw [RingWriter.wrapping, wrapRecord_words, cutRun_singleton, hr.advance_base hfit]
  rfl

theorem RingWriter.wrapOnly_eq (r : RingWriter) :
    r.wrapOnly =
      { wrapAlone := true, bursts := [{ address := r.write, words := [0xF1000000#32] }], newWrite := r.base } := by
  rw [RingWriter.wrapOnly, wrapRecord_words, cutRun_singleton]

/-! ### The choice, case by case -/

theorem RingWriter.choose_once (hm : r.mode = .once) :
    r.choose h = if h.length < r.toLimit then .write (r.single h) else .finished := by
  simp only [RingWriter.choose, hm]

/-- The record fits before LIMIT (R138). -/
theorem RingWriter.choose_loop_of_fits (hm : r.mode = .loop) (hfit : h.length ≤ r.toLimit) :
    r.choose h = if h.length ≤ r.free then .write (r.single h) else .waitSpace := by
  simp only [RingWriter.choose, hm, if_pos hfit]

/-- The record goes to BASE behind a WRAP word (R138). -/
theorem RingWriter.choose_loop_of_wraps (hm : r.mode = .loop) (hfit : r.toLimit < h.length)
    (hall : r.toLimit + h.length ≤ r.size - 1) :
    r.choose h = if r.toLimit + h.length ≤ r.free then .write (r.wrapping h) else .waitSpace := by
  simp only [RingWriter.choose, hm, if_neg (Nat.not_le_of_lt hfit), if_neg (Nat.not_lt_of_le hall)]

/-- The ring cannot hold the words up to LIMIT and the record together: the WRAP word goes alone (R139). -/
theorem RingWriter.choose_loop_of_wrap_alone (hm : r.mode = .loop) (hfit : r.toLimit < h.length)
    (hall : r.size - 1 < r.toLimit + h.length) :
    r.choose h = if r.toLimit ≤ r.free then .write r.wrapOnly else .waitSpace := by
  simp only [RingWriter.choose, hm, if_neg (Nat.not_le_of_lt hfit), if_pos hall]

/-- The used and the free space are counted from READ to WRITE (R136). -/
theorem RingWriter.described.free_eq {used : Nat} (hr : r.described) (hw : r.holds r.write) (hread : r.holds r.read)
    (hused : used = (if r.read.toNat ≤ r.write.toNat then (r.write.toNat - r.read.toNat) / 4
      else r.size - (r.read.toNat - r.write.toNat) / 4)) : r.free = r.size - used - 1 := by
  rw [RingWriter.free, RingWriter.used, hr.distance_eq hread hw, ← hused]

end Sys2Proof.Machine
end

section
/-! The end of the ring in ONCE mode (R132, R140), with every record that is lost counted, and a MARK that finds the
ring finished (R51, R52): the other parts of obligation O28. -/

namespace Sys2Proof.Machine

variable {s t : State} {n : Fin 2} {p : Parked}

/-! ### Counts that saturate -/

theorem satAdd_zero (w : Word) : satAdd w 0 = w := by
  rw [satAdd, Nat.add_zero, if_pos w.isLt, BitVec.ofNat_toNat, BitVec.setWidth_eq]

/-- Records lost one after the other are counted as all at once. -/
theorem satAdd_satAdd (w : Word) (a b : Nat) : satAdd (satAdd w a) b = satAdd w (a + b) := by
  by_cases ha : w.toNat + a < 4294967296
  · have hfirst : (satAdd w a).toNat = w.toNat + a := by
      rw [satAdd, if_pos ha, BitVec.toNat_ofNat]
      exact Nat.mod_eq_of_lt ha
    rw [satAdd, satAdd.eq_def w (a + b), hfirst, Nat.add_assoc]
  · have hfull : satAdd w a = 0xFFFFFFFF#32 := if_neg ha
    rw [hfull, satAdd.eq_def w (a + b), if_neg (by omega), satAdd]
    split
    case isTrue hb =>
      have hmax : (0xFFFFFFFF#32 : Word).toNat = 4294967295 := rfl
      obtain rfl : b = 0 := by omega
      rfl
    case isFalse => rfl

theorem raiseMapped_au_congr (k : CauseKind) (i : Nat) (h : t.au = s.au) :
    (raiseMapped k i t).au = (raiseMapped k i s).au := by
  rw [raiseMapped, raiseMapped, h]
  exact raise_au_congr _ k i h

/-- A cause is raised in the Alert Unit, whatever the rest of the state is. -/
theorem raiseMapped_of_au (k : CauseKind) (i : Nat) (h : t.au = s.au) :
    raiseMapped k i t = { t with au := (raiseMapped k i s).au } :=
  (raiseMapped_eq k i t).trans (congrArg (fun a => { t with au := a }) (raiseMapped_au_congr k i h))

/-! ### The records of released writes are counted (R97, R132) -/

/-- The row of a write that owes a record. -/
def Row.owesWrite (r : Row) : Bool := r.owed && decide (r.kind = .write)

/-- Whether slot `n` holds a write that owes a record, as a number. -/
def State.slotDebt (s : State) (n : Fin 2) : Nat := (s.hold.slots[n].any fun p => s.rows[p.tag].owesWrite).toNat

/-- The PARKED writes that owe a record. -/
def State.parkedDebts (s : State) : Nat :=
  (s.hold.slots.toList.filter fun p => p.any fun p => s.rows[p.tag].owed && decide (s.rows[p.tag].kind = .write)).length

theorem parkedDebts_eq (s : State) : s.parkedDebts = s.slotDebt 0 + s.slotDebt 1 := by
  have hslot : ∀ b : Bool, ∀ l : List (Option Parked), ∀ p f, f p = b →
      ((p :: l).filter f).length = b.toNat + (l.filter f).length := by
    intro b l p f hp
    cases b
    · rw [List.filter_cons_of_neg (by rw [hp]; decide)]
      exact (Nat.zero_add _).symm
    · rw [List.filter_cons_of_pos hp]
      exact Nat.add_comm _ 1
  rw [State.parkedDebts, slots_toList, hslot _ _ _ _ rfl, hslot _ _ _ _ rfl]
  rfl

theorem slotDebt_of_parked (h : s.hold.slots[n] = some p) : s.slotDebt n = s.rows[p.tag].owesWrite.toNat := by
  rw [State.slotDebt, h]
  rfl

theorem slotDebt_of_free (h : s.hold.slots[n] = none) : s.slotDebt n = 0 := by
  rw [State.slotDebt, h]
  rfl

theorem parkedDebts_of_free (h : ∀ n : Fin 2, s.hold.slots[n] = none) : s.parkedDebts = 0 := by
  rw [parkedDebts_eq, slotDebt_of_free (h 0), slotDebt_of_free (h 1)]

/-- What a slot owes is said by the rows' debts and kinds. -/
theorem slotDebt_congr (hslot : t.hold.slots[n] = s.hold.slots[n])
    (hrows : ∀ u : Fin 8, s.slotTag n = some u → t.rows[u].owesWrite = s.rows[u].owesWrite) :
    t.slotDebt n = s.slotDebt n := by
  cases hp : s.hold.slots[n] with
  | none => rw [slotDebt_of_free hp, slotDebt_of_free (hslot.trans hp)]
  | some p =>
    have htag : s.slotTag n = some p.tag := by rw [State.slotTag, hp]; rfl
    rw [slotDebt_of_parked hp, slotDebt_of_parked (hslot.trans hp), hrows p.tag htag]

/-- A release with STOP_FORWARD whose record, if it makes one, is counted as lost. -/
theorem releaseSlot_lost_eq (n : Fin 2) (s : State) :
    releaseSlot (fun _ => countLost 1) n .stopForward [] s =
      { s.slotReleased n with cq := { s.cq with lossCount := satAdd s.cq.lossCount (s.slotDebt n) } } := by
  cases hp : s.hold.slots[n] with
  | none => rw [releaseSlot_of_free hp, slotReleased_of_free hp, slotDebt_of_free hp, satAdd_zero]
  | some p =>
    rw [slotDebt_of_parked hp]
    simp only [releaseSlot, hp, Disposition.answers, Bool.or_false, Bool.false_eq_true, if_false,
      queueForward_modifyRow]
    split
    case isTrue hdebt =>
      have howes : s.rows[p.tag].owesWrite = true := hdebt
      rw [slotReleased_of_parked hp (Row.stopForwarded_of_record hdebt), ← queueForward_modifyRow,
        modifyRow_clearDebt, queueForward_modifyRow, howes]
      rfl
    case isFalse hdebt =>
      have howes : s.rows[p.tag].owesWrite = false := Bool.eq_false_iff.2 hdebt
      rw [slotReleased_of_parked hp (Row.stopForwarded_of_no_record hdebt), howes, Bool.toNat_false, satAdd_zero]
      rfl

/-- Both slots are released, and the records of their writes are counted. -/
theorem releaseBoth_lost_eq (h : s.slotTag 0 ≠ none → s.slotTag 0 ≠ s.slotTag 1) :
    releaseBoth (fun _ => countLost 1) s =
      { s.slotsReleased with cq := { s.cq with lossCount := satAdd s.cq.lossCount s.parkedDebts } } := by
  have hsecond : ({ s.slotReleased 0 with
      cq := { s.cq with lossCount := satAdd s.cq.lossCount (s.slotDebt 0) } } : State).slotDebt 1 = s.slotDebt 1 := by
    refine slotDebt_congr (by simp [State.slotReleased]) fun u hu => ?_
    have hrow := slotReleased_row s 0 u
    rw [if_neg fun h0 => h (by rw [h0]; nofun) (h0.trans hu.symm)] at hrow
    exact congrArg Row.owesWrite hrow
  rw [releaseBoth, releaseSlot_lost_eq, releaseSlot_lost_eq, hsecond, parkedDebts_eq, ← satAdd_satAdd]
  rfl

/-- The end of matching leaves what the slots owe as it is. -/
theorem parkedDebts_freeze (s : State) (c : SessionController) :
    (freeze { s with sc := c }).parkedDebts = s.parkedDebts := by
  have hrow : ∀ u : Fin 8, (freeze { s with sc := c }).rows[u] = { s.rows[u] with late := 0#16 } := fun _ =>
    mapRows_getElem ..
  have hslot : ∀ n : Fin 2, (freeze { s with sc := c }).slotDebt n = s.slotDebt n := fun n =>
    slotDebt_congr (s := s) (t := freeze { s with sc := c }) rfl fun u _ => by rw [hrow]; rfl
  rw [parkedDebts_eq, parkedDebts_eq, hslot, hslot]

/-- The session leaves WATCHING with the records of released writes lost. -/
theorem releaseBoth_freeze_lost (h : s.slotTag 0 ≠ none → s.slotTag 0 ≠ s.slotTag 1) (c : SessionController) :
    releaseBoth (fun _ => countLost 1) (freeze { s with sc := c }) =
      { s.left c with cq := { s.cq with lossCount := satAdd s.cq.lossCount s.parkedDebts } } := by
  rw [releaseBoth_lost_eq (s := freeze { s with sc := c }) h, parkedDebts_freeze]
  rfl

/-- With no slot PARKED, leaving WATCHING ends matching and no more. -/
theorem left_of_free (h : ∀ n : Fin 2, s.hold.slots[n] = none) (c : SessionController) :
    s.left c = freeze { s with sc := c } := by
  rw [State.left, State.slotsReleased, slotReleased_of_free (s := freeze { s with sc := c }) (h 0),
    slotReleased_of_free (s := freeze { s with sc := c }) (h 1)]

theorem slotTags_ne_of_free (h : ∀ n : Fin 2, s.hold.slots[n] = none) :
    s.slotTag 0 ≠ none → s.slotTag 0 ≠ s.slotTag 1 := by
  have htag : s.slotTag 0 = none := by rw [State.slotTag, h 0]; rfl
  exact fun hne => absurd htag hne

/-! ### The ring is finished (R132, R140) -/

/-- RING_DONE is set, the queue is discarded and counted, and the cause is raised. -/
def State.ringOver (s : State) : State :=
  { s with
    rw := { s.rw with ringDone := true }
    cq := { records := [], lossCount := satAdd s.cq.lossCount s.cq.records.length, pendingLoss := 0#32, claim := none }
    au := (raiseMapped .ringDone 0 s).au }

theorem ringFinished_eq (s : State) :
    ringFinished s =
      if s.sc.session = .watching then enterStoppingWith (fun _ => countLost 1) .ringDone s.ringOver
      else s.ringOver := by
  have hover : raiseMapped .ringDone 0 (discardCounted { s with rw := { s.rw with ringDone := true } }) =
      s.ringOver := raiseMapped_of_au .ringDone 0 rfl
  unfold ringFinished
  rw [hover]
  rfl

/-- The stop request that the end of the ring makes in WATCHING (R140). -/
abbrev State.ringDoneStop (s : State) : SessionController := { s.sc with session := .stopping, reason := .ringDone }

theorem ringFinished_of_watching_eq (hw : s.sc.session = .watching)
    (h : s.slotTag 0 ≠ none → s.slotTag 0 ≠ s.slotTag 1) :
    ringFinished s =
      { s.ringOver.left s.ringDoneStop with
        cq := { s.ringOver.cq with lossCount := satAdd s.ringOver.cq.lossCount s.parkedDebts } } := by
  rw [ringFinished_eq, if_pos hw]
  exact releaseBoth_freeze_lost (s := s.ringOver) h _

/-! ### The Ring Writer takes the head record (R137) -/

theorem takeHead_of_idle (hw : s.rw.writer = .idle) (hr : s.sc.session ∈ [.watching, .stopping])
    (hd : s.rw.ringDone = false) : takeHead s = formPlacement s :=
  if_pos ⟨hw, (Session.records_iff _).2 hr, hd⟩

theorem takeHead_of_finished {h : Record} {rest : List Record} (hw : s.rw.writer = .idle)
    (hr : s.sc.session ∈ [.watching, .stopping]) (hd : s.rw.ringDone = false) (hq : s.cq.records = h :: rest)
    (hc : s.rw.choose h = .finished) : takeHead s = ringFinished s := by
  rw [takeHead_of_idle hw hr hd, formPlacement_of_finished hq hc]

theorem takeHead_of_nothing_to_take (h : s.rw.writer ≠ .idle ∨ s.sc.session ∉ [.watching, .stopping] ∨
    s.cq.records = [] ∨ s.rw.ringDone = true) : takeHead s = s := by
  obtain hw | hr | hq | hd := h
  · exact takeHead_of_busy hw
  · exact takeHead_of_no_records ((Session.records_eq_false_iff _).2 hr)
  · rw [takeHead, formPlacement_of_empty hq, ite_self]
  · refine if_neg fun htake => ?_
    rw [hd] at htake
    exact Bool.noConfusion htake.2.2

/-! ### A MARK that finds the ring finished (R51, R52, R114) -/

theorem exec_mark (v : Word) (s : State) : exec (.mark v) s = .next (takeCommand 4 (mark v) s) := rfl

/-- LOSS and the lazy GAP take three words at most beside the record (R126). -/
theorem wordsIn_bundle_le (b : RecordBody) : wordsIn (bundle s b) ≤ b.length + Config.bundleExtra := by
  have happend : ∀ l l' : List Record, wordsIn (l ++ l') = wordsIn l + wordsIn l' := fun l l' => by
    simp [wordsIn]
  have hone : ∀ x : Record, wordsIn [x] = x.length := fun x => by simp [wordsIn]
  have hloss : wordsIn (lossDue s) ≤ 2 := by
    unfold lossDue
    split
    · exact Nat.zero_le _
    · rw [hone]
      exact Nat.le_refl 2
  have htimed : wordsIn (timed s (markSeen s.rbl.losslessSeen b)) ≤ b.length + 1 := by
    have hrecord : (markSeen s.rbl.losslessSeen b).length = b.length := markSeen_length _ _
    unfold timed
    split
    · rw [hone, Record.length, hrecord]
      exact Nat.le_succ _
    · rw [happend, hone, Record.length, hrecord, Nat.add_comm]
      refine Nat.add_le_add_left ?_ _
      split
      · rw [hone]
        exact Nat.le_refl 1
      · exact Nat.zero_le _
  have hextra : Config.bundleExtra = 3 := rfl
  rw [bundle, happend, hextra]
  omega

/-- The state with a bundle placed now that is the whole queue. -/
def State.placedAlone (s : State) (q : List Record) : State :=
  { s with
    cq := { records := q, lossCount := s.cq.lossCount, pendingLoss := 0#32, claim := none }
    rbl := { s.rbl with refTime := s.tb.ticks, timeLost := false } }

/-- A MARK into an empty queue is placed, and the queue is not urgent with it (R122, R130). -/
theorem admitBundle_mark_of_empty {v : Word} (hq : s.cq.records = []) (hclaim : s.cq.claim = none) :
    admitBundle false (.mark v) s = some (s.placedAlone (bundle s (.mark v))) := by
  have hwords : wordsIn (bundle s (.mark v)) ≤ 5 := wordsIn_bundle_le (.mark v)
  have hroom : wordsIn (bundle s (.mark v)) ≤ s.cq.room false := by
    rw [CaptureQueue.room, CaptureQueue.occupancy, hq, hclaim]
    change _ ≤ 128 - 0 - 0
    omega
  have hcalm : ∀ q : CaptureQueue, q.records = bundle s (.mark v) → q.urgent = false := by
    intro q hrecords
    rw [CaptureQueue.urgent, CaptureQueue.occupancy, hrecords, decide_eq_false_iff_not]
    change ¬ 96 ≤ _
    omega
  have happend : append (bundle s (.mark v)) s = { s with cq := { s.cq with records := bundle s (.mark v) } } := by
    unfold append
    dsimp only
    rw [hcalm { s.cq with records := s.cq.records ++ bundle s (.mark v) } (by rw [hq]; rfl), Bool.and_false,
      if_neg Bool.false_ne_true, hq]
    rfl
  rw [admitBundle, if_pos hroom, happend]
  simp [State.placedAlone, RecordBody.isHit, hclaim]

theorem mark_of_placed {v : Word} (hw : s.sc.session = .watching) (ha : admitBundle false (.mark v) s = some t) :
    mark v s = (finish (takeHead t), [0x00#8]) := by
  simp only [mark, hw, if_true, ha]
  rfl

/-- The rows' debts are as before when matching ends. -/
theorem someOwes_freeze (s : State) (c : SessionController) : (freeze { s with sc := c }).someOwes = s.someOwes := by
  rw [Bool.eq_iff_iff, someOwes_iff, someOwes_iff]
  refine exists_congr fun u => ?_
  have hrow : (freeze { s with sc := c }).rows[u] = { s.rows[u] with late := 0#16 } := mapRows_getElem ..
  rw [hrow]

/-- A Ring Writer that is not WRITING asks for no grant (R153). -/
theorem noGrant_of_not_writing (h : s.noGrant = true) (hmpa : t.mpa = s.mpa) (hfq : t.fq = s.fq)
    (hw : t.rw.writer ≠ .writing) : t.noGrant = true := by
  have hrequest : t.rw.request = none := if_neg fun hr => hw hr.1
  rw [State.noGrant] at h ⊢
  rw [hmpa, hfq, hrequest]
  cases hport : s.mpa.port with
  | issuing d => rfl
  | ready =>
    rw [hport] at h
    simp only [Bool.and_eq_true] at h
    simp [h.1]

/-- With no slot PARKED, the end of the ring releases nothing. -/
theorem ringFinished_of_free (hw : s.sc.session = .watching) (hfree : ∀ n : Fin 2, s.hold.slots[n] = none) :
    ringFinished s = freeze { s.ringOver with sc := s.ringDoneStop } := by
  rw [ringFinished_of_watching_eq hw (slotTags_ne_of_free hfree), left_of_free (s := s.ringOver) hfree,
    parkedDebts_of_free hfree, satAdd_zero]
  rfl

/-- With nothing owed and nothing waiting, the session ends in the step in which the ring is finished: the STOP record
is discarded and counted, and the queue is empty (R51, R52, R132). -/
theorem finish_ringFinished_of_free (hw : s.sc.session = .watching) (hidle : s.rqp.acceptance = .idle)
    (hfree : ∀ n : Fin 2, s.hold.slots[n] = none) (hrows : ∀ u : Fin 8, s.rows[u].state ≠ .responding)
    (howes : s.someOwes = false) (hdue : s.sc.stopRecord = .notDue) (hwriter : s.rw.writer = .idle)
    (hout : s.rw.outstanding = none) (hg : s.noGrant = true) :
    finish (ringFinished s) =
      { s with
        sc := { s.sc with session := .stopped, reason := .ringDone, stopRecord := .placed }
        rows := mapVec (fun r => { r with late := 0#16 }) s.rows
        counters := mapVec (fun c => { c with tickPending := false }) s.counters
        rw := { s.rw with ringDone := true }
        cq := { records := [], lossCount := satAdd s.cq.lossCount (s.cq.records.length + 1), pendingLoss := 0#32,
                claim := none }
        au := (raiseMapped .sessionStopped 0 (raiseMapped .ringDone 0 s)).au } := by
  obtain ⟨x, hx⟩ : ∃ x, x = freeze { s.ringOver with sc := s.ringDoneStop } := ⟨_, rfl⟩
  have hxrows : ∀ u : Fin 8, x.rows[u].state ≠ .responding := fun u => by
    have hrow : x.rows[u] = { s.rows[u] with late := 0#16 } := by
      rw [hx]
      exact mapRows_getElem ..
    rw [hrow]
    exact hrows u
  have hxowes : x.someOwes = false := by rw [hx, someOwes_freeze (s := s.ringOver)]; exact howes
  have hoffered : stopProgress x = countLost 1 { x with sc := { x.sc with stopRecord := .placed } } := by
    have hxs : x.sc.session = .stopping := by rw [hx]; rfl
    have hxdue : x.sc.stopRecord = .notDue := by rw [hx]; exact hdue
    exact (stopProgress_of_no_debt hxs hxdue hxowes).trans (offerStop_of_done (by rw [hx]; rfl))
  have hended : stopComplete (countLost 1 { x with sc := { x.sc with stopRecord := .placed } }) =
      { countLost 1 x with
        sc := { x.sc with session := .stopped, stopRecord := .placed }
        au := (raiseMapped .sessionStopped 0 (raiseMapped .ringDone 0 s)).au } := by
    have hcause : x.au = (raiseMapped .ringDone 0 s).au := by rw [hx]; rfl
    have hring : x.rw = { s.rw with ringDone := true } := by rw [hx]; rfl
    refine (if_pos ⟨by rw [hx]; rfl, hxowes, rfl, by rw [hx]; rfl, ?_⟩).trans
      (raiseMapped_of_au (s := raiseMapped .ringDone 0 s) _ _ hcause)
    change x.rw.isIdle = true
    simp [RingWriter.isIdle, hring, hwriter, hout]
  rw [ringFinished_of_free hw hfree, ← hx, finish_of_empty_path (by rw [hx]; exact hidle) hxrows, hoffered, hended,
    arbitrate_of_noGrant, hx, ← satAdd_satAdd]
  · rfl
  · have hw : x.rw.writer ≠ .writing := by
      rw [hx]
      exact ne_of_eq_of_ne hwriter (by decide)
    exact noGrant_of_not_writing hg (by rw [hx]; rfl) (by rw [hx]; rfl) hw

end Sys2Proof.Machine

namespace Sys2Proof.Proofs.TheRingWriter

open Sys2Proof.Machine

/-- The first part of O28: where the head record goes. -/
theorem placementOfTheHeadRecord_choose (r : RingWriter) (h : Record) (w used free : Nat) (hr : r.described)
    (hwrite : r.holds r.write) (hread : r.holds r.read) (hw : w = (r.limit.toNat - r.write.toNat) / 4)
    (hused : used = (if r.read.toNat ≤ r.write.toNat then (r.write.toNat - r.read.toNat) / 4
      else r.size - (r.read.toNat - r.write.toNat) / 4))
    (hfree : free = r.size - used - 1) :
    (r.mode = .once → h.length < w →
      r.choose h = .write
        { wrapAlone := false, bursts := cutRun r.write h.words,
          newWrite := r.write + BitVec.ofNat 32 (4 * h.length) }) ∧
    (r.mode = .once → w ≤ h.length → r.choose h = .finished) ∧
    (r.mode = .loop → h.length ≤ w → h.length ≤ free →
      r.choose h = .write
        { wrapAlone := false, bursts := cutRun r.write h.words,
          newWrite := if h.length = w then r.base else r.write + BitVec.ofNat 32 (4 * h.length) }) ∧
    (r.mode = .loop → h.length ≤ w → free < h.length → r.choose h = .waitSpace) ∧
    (r.mode = .loop → w < h.length → w + h.length ≤ r.size - 1 → w + h.length ≤ free →
      r.choose h = .write
        { wrapAlone := false,
          bursts := { address := r.write, words := [0xF1000000#32] } :: cutRun r.base h.words,
          newWrite := r.base + BitVec.ofNat 32 (4 * h.length) }) ∧
    (r.mode = .loop → w < h.length → w + h.length ≤ r.size - 1 → free < w + h.length →
      r.choose h = .waitSpace) ∧
    (r.mode = .loop → w < h.length → r.size - 1 < w + h.length → w ≤ free →
      r.choose h = .write
        { wrapAlone := true, bursts := [{ address := r.write, words := [0xF1000000#32] }], newWrite := r.base }) ∧
    (r.mode = .loop → w < h.length → r.size - 1 < w + h.length → free < w → r.choose h = .waitSpace) := by
  obtain rfl : w = r.toLimit := hw
  obtain rfl : free = r.free := hfree.trans (hr.free_eq hwrite hread hused).symm
  have hlarge := hr.sixteen_le_size
  refine ⟨fun hm hfit => ?once, fun hm hfull => ?finished, fun hm hfit hroom => ?fits, fun hm hfit hfull => ?fitsNot,
    fun hm hfit hall hroom => ?wraps, fun hm hfit hall hfull => ?wrapsNot, fun hm hfit hall hroom => ?alone,
    fun hm hfit hall hfull => ?aloneNot⟩
  case once =>
    rw [RingWriter.choose_once hm, if_pos hfit, hr.single_eq hwrite hfit.le, if_neg hfit.ne]
  case finished => rw [RingWriter.choose_once hm, if_neg (Nat.not_lt_of_le hfull)]
  case fits => rw [RingWriter.choose_loop_of_fits hm hfit, if_pos hroom, hr.single_eq hwrite hfit]
  case fitsNot => rw [RingWriter.choose_loop_of_fits hm hfit, if_neg (Nat.not_le_of_lt hfull)]
  case wraps =>
    rw [RingWriter.choose_loop_of_wraps hm hfit hall, if_pos hroom, hr.wrapping_eq (by omega)]
  case wrapsNot => rw [RingWriter.choose_loop_of_wraps hm hfit hall, if_neg (Nat.not_le_of_lt hfull)]
  case alone => rw [RingWriter.choose_loop_of_wrap_alone hm hfit hall, if_pos hroom, RingWriter.wrapOnly_eq]
  case aloneNot => rw [RingWriter.choose_loop_of_wrap_alone hm hfit hall, if_neg (Nat.not_le_of_lt hfull)]

/-- Settles O28: the choice, the taking of the head record, the end of the ring, and a MARK that finds it. -/
theorem placementOfTheHeadRecord : Obligations.PlacementOfTheHeadRecord := by
  refine ⟨placementOfTheHeadRecord_choose, fun s => ⟨takeHead_of_nothing_to_take,
    fun h rest t hidle hs hq hd ht => ⟨fun p hc => ?write, fun hc => ?waitSpace, fun hc hstop => ?stopping,
      fun hc hw hsound => ?watching⟩, fun own b hd => ?offer⟩, ?mark⟩
  case write => rw [takeHead_of_idle hidle hs hd, formPlacement_of_write hq hc]; rfl
  case waitSpace => rw [takeHead_of_idle hidle hs hd, formPlacement_of_waitSpace hq hc]
  case stopping =>
    rw [takeHead_of_finished hidle hs hd hq hc, ringFinished_eq, hstop, ht]
    rfl
  case watching =>
    obtain ⟨-, ⟨-, hne, -⟩, -⟩ := hsound
    have hover : t = s.ringOver := ht
    rw [takeHead_of_finished hidle hs hd hq hc, ringFinished_of_watching_eq hw hne, hover]
    refine ⟨_, rfl, rfl, slotsReleased_fq (freeze { s.ringOver with sc := s.ringDoneStop }),
      left_slots s.ringOver s.ringDoneStop, rfl, ?_⟩
    rw [State.left]
    rfl
  case offer => exact offer_of_ringDone hd
  case mark =>
    intro v s h rest hf hrest hw hidle hfree hrows howes hdue hd hwriter hout hq hclaim hbundle hc
    obtain ⟨-, -, -, hg⟩ := hrest
    have ha := admitBundle_mark_of_empty (v := v) hq hclaim
    rw [hbundle] at ha
    have htaken : takeHead (s.placedAlone (h :: rest)) = ringFinished (s.placedAlone (h :: rest)) :=
      takeHead_of_finished hwriter (by simp [State.placedAlone, hw]) hd rfl hc
    have hend := finish_ringFinished_of_free (s := s.placedAlone (h :: rest)) hw hidle hfree hrows howes hdue hwriter
      hout hg
    rw [exec_mark, takeCommand_of_receiving hf, mark_of_placed hw ha, htaken, hend,
      raiseMapped_au_congr _ _ (raiseMapped_au_congr (s := s) (t := s.placedAlone (h :: rest)) .ringDone 0 rfl)]
    rfl

end Sys2Proof.Proofs.TheRingWriter
end

section
/-! Responses to ring bursts that leave the session as it is, but for the end of STOPPING: the next burst, publication,
and the end of an abandoned burst (R137, R142, R143, R146, R147): part of obligation O47. -/

namespace Sys2Proof.Machine

variable {s t : State} {b : Burst} {p : Placement} {port : Downstream}

theorem exec_ringResponse (tag : Fin 8) (status : RespStatus) (words : List Word) (s : State) :
    exec (.memoryResponse { marker := .ring, tag := tag, status := status, data := words }) s =
      .next (ringResponse status s) := rfl

/-! ### The end of a step that has moved the Ring Writer -/

/-- The state with the Ring Writer, the queue and the Alert Unit changed. -/
def State.withRing (s : State) (x : RingWriter) (q : CaptureQueue) (a : AlertUnit) : State :=
  { s with rw := x, cq := q, au := a }

variable {x : RingWriter} {q : CaptureQueue} {a : AlertUnit}

/-- No wait is over while RING_DONE is as it was (R129). -/
theorem waits_withRing (h : s.atRest) (hd : x.ringDone = s.rw.ringDone) :
    (s.withRing x q a).waitStands = true ∧
      ((s.withRing x q a).mayWait = true ∨ ∀ u : Fin 8, (s.withRing x q a).rows[u].state ≠ .responding) := by
  obtain ⟨hstands, hresp, -, -⟩ := h
  have hmay : (s.withRing x q a).mayWait = s.mayWait := by
    rw [State.mayWait, State.mayWait, ← hd]
    rfl
  refine ⟨?_, hresp.imp hmay.trans id⟩
  have hport : (s.withRing x q a).rqp = s.rqp := rfl
  unfold State.waitStands at hstands ⊢
  rw [hport]
  cases hacc : s.rqp.acceptance with
  | idle => rfl
  | waitOrphan r => rw [hacc] at hstands; exact hstands
  | waitConflict r => rw [hacc] at hstands; exact hstands
  | waitLossless tag since o => rw [hacc] at hstands; exact hmay.trans hstands

/-- In STOPPING with its record placed, something is left to publish (R52). -/
theorem settled_withRing (h : s.atRest) (hd : x.ringDone = s.rw.ringDone)
    (hleft : s.sc.session = .stopping → s.sc.stopRecord = .placed →
      s.someOwes = true ∨ q.records ≠ [] ∨ x.isIdle = false) : (s.withRing x q a).settled := by
  obtain ⟨hstands, hresp⟩ := waits_withRing (q := q) (a := a) h hd
  refine ⟨hstands, hresp, fun hs => ?_⟩
  obtain ⟨-, -, hstop, -⟩ := h
  have hprogress := hstop hs
  have hsc : (s.withRing x q a).sc = s.sc := rfl
  have howes : (s.withRing x q a).someOwes = s.someOwes := rfl
  have hring : (s.withRing x q a).rw = x := rfl
  have hqueue : (s.withRing x q a).cq = q := rfl
  unfold State.stoppingStands at hprogress ⊢
  rw [hsc, howes, hring, hqueue]
  cases hrecord : s.sc.stopRecord with
  | notDue => rw [hrecord] at hprogress; exact hprogress
  | due => rw [hrecord, ← hd] at hprogress; exact hprogress
  | placed =>
    obtain howes | hq | hidle := hleft hs hrecord
    · simp [howes]
    · simp [hq]
    · simp [hidle]

/-- With the port busy, or nothing to grant, that is the end of the step. -/
theorem finish_withRing (h : s.atRest) (hd : x.ringDone = s.rw.ringDone)
    (hleft : s.sc.session = .stopping → s.sc.stopRecord = .placed →
      s.someOwes = true ∨ q.records ≠ [] ∨ x.isIdle = false) (hg : (s.withRing x q a).noGrant = true) :
    finish (s.withRing x q a) = s.withRing x q a := finish_of_rest (settled_withRing h hd hleft) hg

/-- The last record has been published and the Ring Writer is idle: STOPPING ends (R52). -/
theorem finish_withRing_stopped (h : s.atRest) (hd : x.ringDone = s.rw.ringDone) (hs : s.sc.session = .stopping)
    (hrecord : s.sc.stopRecord = .placed) (howes : s.someOwes = false) (hq : q.records = []) (hidle : x.isIdle = true) :
    finish (s.withRing x q a) =
      raiseMapped .sessionStopped 0 { s.withRing x q a with sc := { s.sc with session := .stopped } } := by
  obtain ⟨hstands, hresp⟩ := waits_withRing (q := q) (a := a) h hd
  have hsame : stopProgress (s.withRing x q a) = s.withRing x q a := stopProgress_of_offered (.inl hrecord)
  have hended : stopComplete (s.withRing x q a) =
      raiseMapped .sessionStopped 0 { s.withRing x q a with sc := { s.sc with session := .stopped } } :=
    if_pos ⟨hs, howes, hrecord, hq, hidle⟩
  have hw : x.writer ≠ .writing := by
    rw [RingWriter.isIdle, Bool.and_eq_true, decide_eq_true_eq] at hidle
    rw [hidle.1]
    decide
  obtain ⟨-, -, -, hg⟩ := h
  rw [finish, endLosslessWaits_of_none hstands hresp, hsame, resumeWait_of_stands hstands,
    endLosslessWaits_of_none hstands hresp, hsame, hended, arbitrate_of_noGrant]
  rw [raiseMapped_eq]
  exact noGrant_of_not_writing hg rfl rfl hw

/-! ### The next burst of the placement (R142) -/

/-- The burst outstanding has been answered. -/
def RingWriter.answered (r : RingWriter) (b : Burst) : RingWriter :=
  { r with outstanding := none, written := r.written + b.words.length }

theorem ringResponse_of_next {next : Burst} {rest : List Burst} (h : s.atRest) (ho : s.rw.outstanding = some b)
    (hw : s.rw.writer = .writing) (hp : s.rw.placement = some p) (hb : p.bursts = next :: rest) :
    ringResponse .okay s = arbitrate (s.withRing (s.rw.answered b) s.cq s.au) := by
  have hbusy : (s.rw.answered b).isIdle = false := by simp [RingWriter.isIdle, RingWriter.answered, hw]
  rw [ringResponse_of_okay ho hw, burstDone_of_next hp (by rw [hb]; exact List.cons_ne_nil _ _)]
  exact finish_of_settled (settled_withRing h (x := s.rw.answered b) rfl fun _ _ => .inr (.inr hbusy))

/-- With no tag in the Forward Queue, the port goes to the Ring Writer (R153). -/
theorem arbitrate_of_ring (hport : s.mpa.port = .ready) (hfq : s.fq = []) (hb : s.rw.request = some b) :
    arbitrate s = grantRing b s := by
  simp only [arbitrate, hport, hfq, hb]

/-- While a burst is outstanding and the port is READY, no tag stands in the Forward Queue. -/
theorem fq_of_ready (h : s.atRest) (hport : s.mpa.port = .ready) : s.fq = [] := by
  obtain ⟨-, -, -, hg⟩ := h
  obtain ⟨d, hd⟩ | hfq := no_tag_of_noGrant hg
  · rw [hport] at hd
    cases hd
  · exact hfq

/-! ### Publication (R143, R146) -/

/-- What is compared with the watermark once WRITE stands at `a`. -/
def RingWriter.fillAt (r : RingWriter) (a : Word) : Nat :=
  match r.mode with
  | .loop => r.distance r.read a
  | .once => (a.toNat - r.base.toNat) / 4

theorem RingWriter.fillAt_write (r : RingWriter) : r.fillAt r.write = r.fill := rfl

theorem RingWriter.fillAt_of_once {a : Word} (hm : x.mode = .once) :
    x.fillAt a = (a.toNat - x.base.toNat) / 4 := by
  simp only [RingWriter.fillAt, hm]

theorem RingWriter.described.fillAt_of_loop {a : Word} (h : x.described) (hread : x.holds x.read) (ha : x.holds a)
    (hm : x.mode = .loop) :
    x.fillAt a = if x.read.toNat ≤ a.toNat then (a.toNat - x.read.toNat) / 4
      else x.size - (x.read.toNat - a.toNat) / 4 := by
  rw [← h.distance_eq hread ha]
  simp only [RingWriter.fillAt, hm]

/-- The Ring Writer right after a publication. -/
def RingWriter.published (r : RingWriter) (p : Placement) : RingWriter :=
  { r with
    outstanding := none, write := p.newWrite, written := 0, writer := .idle, placement := none
    armed := r.armed && decide (r.fillAt p.newWrite < r.watermark) }

/-- The state right after a publication: the head record has left the queue, unless the placement was a WRAP alone, and
RING_HIGH is raised when the fill has reached the watermark armed. -/
def State.published (s : State) (p : Placement) : State :=
  s.withRing (s.rw.published p) { s.cq with records := if p.wrapAlone then s.cq.records else s.cq.records.tail }
    (if s.rw.armed = true ∧ s.rw.watermark ≤ s.rw.fillAt p.newWrite then (raiseMapped .ringHigh 0 s).au else s.au)

theorem compareWatermark_eq (s : State) :
    compareWatermark s =
      { s with
        rw := { s.rw with armed := s.rw.armed && decide (s.rw.fill < s.rw.watermark) }
        au :=
          if s.rw.armed = true ∧ s.rw.watermark ≤ s.rw.fill then (raiseMapped .ringHigh 0 s).au else s.au } := by
  unfold compareWatermark
  by_cases hhigh : s.rw.armed = true ∧ s.rw.watermark ≤ s.rw.fill
  · have hdisarmed : (s.rw.armed && decide (s.rw.fill < s.rw.watermark)) = false := by simp [hhigh.2]
    rw [if_pos (by simpa using hhigh), if_pos hhigh, hdisarmed]
    exact raiseMapped_of_au .ringHigh 0 rfl
  · have hkept : (s.rw.armed && decide (s.rw.fill < s.rw.watermark)) = s.rw.armed := by
      cases harmed : s.rw.armed
      · rfl
      · simpa [harmed] using hhigh
    rw [if_neg (by simpa using hhigh), if_neg hhigh, hkept]

theorem publish_eq (p : Placement) (s : State) (k : Nat) :
    publish p { s with rw := { s.rw with outstanding := none, written := k } } = s.published p := by
  rw [publish, compareWatermark_eq, State.published, ← raiseMapped_au_congr (s := s) .ringHigh 0]
  · rfl
  · rfl

theorem burstDone_eq (hp : s.rw.placement = some p) (hb : p.bursts = []) :
    burstDone b s = takeHead (s.published p) := by
  rw [burstDone_of_last hp hb, publish_eq]

theorem ringResponse_of_last (ho : s.rw.outstanding = some b) (hw : s.rw.writer = .writing)
    (hp : s.rw.placement = some p) (hb : p.bursts = []) :
    ringResponse .okay s = finish (takeHead (s.published p)) := by
  rw [ringResponse_of_okay ho hw, burstDone_eq hp hb]

/-- Nothing is left in the queue, and STOPPING has still to wait, or the session goes on. -/
theorem finish_published_of_empty (h : s.atRest) (hq : (s.published p).cq.records = [])
    (hleft : s.sc.session = .stopping → s.sc.stopRecord = .placed → s.someOwes = true) :
    finish (takeHead (s.published p)) = s.published p := by
  rw [takeHead_of_nothing_to_take (.inr (.inr (.inl hq)))]
  refine finish_withRing h rfl (fun hs hrecord => .inl (hleft hs hrecord)) ?_
  obtain ⟨-, -, -, hg⟩ := h
  exact noGrant_of_not_writing hg rfl rfl nofun

/-- The publication is the last event of STOPPING (R52). -/
theorem finish_published_of_stopping (h : s.atRest) (hq : (s.published p).cq.records = [])
    (hs : s.sc.session = .stopping) (hrecord : s.sc.stopRecord = .placed) (howes : s.someOwes = false) :
    finish (takeHead (s.published p)) =
      raiseMapped .sessionStopped 0 { s.published p with sc := { s.sc with session := .stopped } } := by
  rw [takeHead_of_nothing_to_take (.inr (.inr (.inl hq)))]
  exact finish_withRing_stopped h rfl hs hrecord howes hq rfl

/-! ### The next head record is taken (R137) -/

/-- An idle Ring Writer takes the head record, and with the port busy no more follows. -/
theorem finish_takeHead_of_write {h : Record} {rest : List Record} {next : Placement} (hrest : s.atRest)
    (hport : s.mpa.port = .issuing port) (hd : x.ringDone = s.rw.ringDone)
    (hs : s.sc.session ∈ [.watching, .stopping]) (hdone : s.rw.ringDone = false) (hidle : x.writer = .idle)
    (hq : q.records = h :: rest) (hc : x.choose h = .write next) :
    finish (takeHead (s.withRing x q a)) =
      s.withRing { x with writer := .writing, written := 0, placement := some next } q a := by
  rw [takeHead_of_idle (s := s.withRing x q a) hidle hs (hd.trans hdone), formPlacement_of_write hq hc]
  exact finish_withRing (s := s) (x := { x with writer := .writing, written := 0, placement := some next }) (q := q)
    (a := a) hrest hd (fun _ _ => .inr (.inl (by rw [hq]; exact List.cons_ne_nil _ _))) (noGrant_of_issuing hport)

theorem finish_takeHead_of_waitSpace {h : Record} {rest : List Record} (hrest : s.atRest)
    (hport : s.mpa.port = .issuing port) (hd : x.ringDone = s.rw.ringDone)
    (hs : s.sc.session ∈ [.watching, .stopping]) (hdone : s.rw.ringDone = false) (hidle : x.writer = .idle)
    (hq : q.records = h :: rest) (hc : x.choose h = .waitSpace) :
    finish (takeHead (s.withRing x q a)) = s.withRing { x with writer := .waitSpace } q a := by
  rw [takeHead_of_idle (s := s.withRing x q a) hidle hs (hd.trans hdone), formPlacement_of_waitSpace hq hc]
  exact finish_withRing (s := s) (x := { x with writer := .waitSpace }) (q := q) (a := a) hrest hd
    (fun _ _ => .inr (.inl (by rw [hq]; exact List.cons_ne_nil _ _))) (noGrant_of_issuing hport)

/-! ### The end of an abandoned burst (R147) -/

/-- The Ring Writer once the burst that it has abandoned is answered. -/
def RingWriter.over (r : RingWriter) : RingWriter := { r with outstanding := none, writer := .idle }

/-- The room for a record is as before. -/
theorem RingWriter.choose_over (r : RingWriter) (h : Record) : r.over.choose h = r.choose h := rfl

theorem ringResponse_of_abandoning (ho : s.rw.outstanding = some b) (hw : s.rw.writer = .abandoning)
    (status : RespStatus) : ringResponse status s = finish (takeHead (s.withRing s.rw.over s.cq s.au)) :=
  ringResponse_of_over ho (by rw [hw]; decide) status

/-- The Ring Writer has nothing to take outside STOPPING. -/
theorem ringResponse_of_over_idle (h : s.atRest) (ho : s.rw.outstanding = some b) (hw : s.rw.writer = .abandoning)
    (hs : s.sc.session ∈ [.off, .stopped, .fault] ∨ (s.sc.session = .watching ∧ s.cq.records = []))
    (status : RespStatus) : ringResponse status s = s.withRing s.rw.over s.cq s.au := by
  have hnothing : s.sc.session ∉ [.watching, .stopping] ∨ s.cq.records = [] := hs.imp
    (fun hs => (Session.records_eq_false_iff _).1 ((no_session_iff _).2 hs)) fun hs => hs.2
  have hstop : s.sc.session ≠ .stopping := by
    obtain hs | ⟨hs, -⟩ := hs
    · intro he
      rw [he] at hs
      simp at hs
    · rw [hs]
      decide
  rw [ringResponse_of_abandoning ho hw, takeHead_of_nothing_to_take
    (s := s.withRing s.rw.over s.cq s.au) (.inr (hnothing.imp id .inl))]
  refine finish_withRing h rfl (fun he => absurd he hstop) ?_
  obtain ⟨-, -, -, hg⟩ := h
  exact noGrant_of_not_writing hg rfl rfl nofun

end Sys2Proof.Machine
end

section
/-! Responses to ring bursts that end the session in FAULT, with every record that is lost counted (R53, R129, R132,
R147): part of obligation O47. -/

namespace Sys2Proof.Machine

variable {s t v : State} {b : Burst} {tag : Fin 8} {o : MatchOutcome}

/-! ### Into FAULT (R53) -/

/-- The Session Controller in FAULT. -/
abbrev State.faultSc (s : State) : SessionController :=
  { s.sc with session := .fault, reason := if s.sc.session = .watching then .fault else s.sc.reason }

/-- The Ring Writer gives its placement up. -/
def State.gaveUp (s : State) : State :=
  { s with rw := { s.rw with outstanding := none, writer := .idle, written := 0, placement := none } }

/-- FAULT up to the end of lossless waits: matching has ended, both slots are released, and the records of their
writes and of the queue are lost. -/
def State.faultLeft (s : State) : State :=
  { s.left s.faultSc with
    cq := { records := [], lossCount := satAdd s.cq.lossCount (s.parkedDebts + s.cq.records.length),
            pendingLoss := 0#32, claim := none } }

/-- A STOP record that waits for room is lost. -/
theorem abandonStop_eq (s : State) :
    abandonStop s =
      { s with
        sc := { s.sc with stopRecord := if s.sc.stopRecord = .due then .placed else s.sc.stopRecord }
        cq := { s.cq with lossCount := satAdd s.cq.lossCount (if s.sc.stopRecord = .due then 1 else 0) } } := by
  unfold abandonStop
  split
  case isTrue hdue => rfl
  case isFalse hdue => rw [satAdd_zero]

theorem enterFault_eq (hs : s.sc.session ∈ [.watching, .stopping])
    (h : s.slotTag 0 ≠ none → s.slotTag 0 ≠ s.slotTag 1) :
    enterFault s = raise (some 0) .ringFault 0 (abandonStop (endLosslessWaits s.faultLeft)) := by
  have hleft : discardCounted (releaseBoth (fun _ => countLost 1) (freeze { s with sc := s.faultSc })) =
      s.faultLeft := by
    rw [releaseBoth_freeze_lost h, discardCounted, State.faultLeft, ← satAdd_satAdd]
  exact (if_pos ((Session.records_iff _).2 hs)).trans
    (congrArg (fun u => raise (some 0) .ringFault 0 (abandonStop (endLosslessWaits u))) hleft)

/-- In FAULT, with no request in hand and no row RESPONDING, only the arbiter could act. -/
theorem finish_of_fault (hs : t.sc.session = .fault) (hidle : t.rqp.acceptance = .idle)
    (hrows : ∀ u : Fin 8, t.rows[u].state ≠ .responding) (hg : t.noGrant = true) : finish t = t := by
  refine finish_of_rest ⟨?_, .inr hrows, fun he => ?_⟩ hg
  · rw [State.waitStands, hidle]
  · rw [hs] at he
    cases he

/-- The step of a burst answered ERROR, by what the end of lossless waits leaves. -/
theorem ringResponse_of_fault (ho : s.rw.outstanding = some b) (hw : s.rw.writer = .writing)
    (hs : s.sc.session ∈ [.watching, .stopping]) (hslots : s.slotTag 0 ≠ none → s.slotTag 0 ≠ s.slotTag 1)
    (hlost : endLosslessWaits s.gaveUp.faultLeft = v) (hsc : v.sc = s.faultSc) (hidle : v.rqp.acceptance = .idle)
    (hrows : ∀ u : Fin 8, v.rows[u].state ≠ .responding) (hg : v.noGrant = true) :
    ringResponse .error s =
      raise (some 0) .ringFault 0
        { v with
          sc := { s.faultSc with stopRecord := if s.sc.stopRecord = .due then .placed else s.sc.stopRecord }
          cq := { v.cq with lossCount := satAdd v.cq.lossCount (if s.sc.stopRecord = .due then 1 else 0) } } := by
  have hfault : burstFailed s = raise (some 0) .ringFault 0 (abandonStop v) := by
    rw [← hlost]
    exact enterFault_eq (s := s.gaveUp) hs hslots
  rw [ringResponse_of_error ho hw, hfault, abandonStop_eq, hsc]
  exact finish_of_fault rfl hidle hrows hg

/-! ### With nothing parked and nothing waiting -/

theorem faultLeft_of_free (h : ∀ n : Fin 2, s.hold.slots[n] = none) :
    s.faultLeft =
      { freeze { s with sc := s.faultSc } with
        cq := { records := [], lossCount := satAdd s.cq.lossCount s.cq.records.length, pendingLoss := 0#32,
                claim := none } } := by
  rw [State.faultLeft, left_of_free h, parkedDebts_of_free h, Nat.zero_add]

theorem freeze_row (s : State) (u : Fin 8) : (freeze s).rows[u] = { s.rows[u] with late := 0#16 } := mapRows_getElem ..

theorem ringResponse_of_fault_free (hrest : s.atRest) (ho : s.rw.outstanding = some b) (hw : s.rw.writer = .writing)
    (hs : s.sc.session ∈ [.watching, .stopping]) (hidle : s.rqp.acceptance = .idle)
    (hfree : ∀ n : Fin 2, s.hold.slots[n] = none) (hrows : ∀ u : Fin 8, s.rows[u].state ≠ .responding) :
    ringResponse .error s =
      raise (some 0) .ringFault 0
        { freeze s.gaveUp with
          sc := { s.faultSc with stopRecord := if s.sc.stopRecord = .due then .placed else s.sc.stopRecord }
          cq := { records := [], pendingLoss := 0#32, claim := none,
                  lossCount := satAdd (satAdd s.cq.lossCount s.cq.records.length)
                    (if s.sc.stopRecord = .due then 1 else 0) } } := by
  have hleft := faultLeft_of_free (s := s.gaveUp) hfree
  have hstates : ∀ u : Fin 8, s.gaveUp.faultLeft.rows[u].state ≠ .responding := fun u => by
    rw [hleft]
    exact (congrArg Row.state (freeze_row s u)).trans_ne (hrows u)
  obtain ⟨-, -, -, hg⟩ := hrest
  refine (ringResponse_of_fault ho hw hs (slotTags_ne_of_free hfree)
    (endLosslessWaits_of_waitless ⟨?_, hstates⟩) (by rw [hleft]; rfl) ?_ hstates ?_).trans ?_
  · rw [hleft]
    exact congrArg Acceptance.heldTag hidle
  · rw [hleft]
    exact hidle
  · rw [hleft]
    exact noGrant_of_not_writing hg rfl rfl nofun
  · rw [hleft]
    rfl

/-! ### RESPONDING rows lose their waits (R129) -/

/-- The rows of a list that lose their waits are answered, and their records are counted. -/
theorem waitsLost_eq {l : List (Fin 8)} (hl : l.Nodup) (h : s.waitsSound) :
    s.waitsLost l =
      { s.answeredOn l with
        cq := { s.cq with
          lossCount := satAdd s.cq.lossCount (l.filter fun n => s.rows[n].wait.isSome).length } } := by
  induction l generalizing s with
  | nil =>
    rw [answeredOn_nil, List.filter_nil, List.length_nil, satAdd_zero]
    rfl
  | cons n l ih =>
    obtain ⟨hn, hl⟩ := List.nodup_cons.1 hl
    have hcons : s.waitsLost (n :: l) = (loseWaitingRow n s).waitsLost l := rfl
    rw [hcons]
    cases hwait : s.rows[n].wait with
    | none =>
      have hstate : s.rows[n].state ≠ .responding := fun he => by
        have hsome := (h n).1 he
        rw [hwait] at hsome
        cases hsome
      rw [loseWaitingRow_of_not_responding hstate, ih hl h, answeredOn_cons_of_none hwait,
        List.filter_cons_of_neg (by rw [hwait]; exact Bool.false_ne_true)]
    | some w =>
      have hstate : s.rows[n].state = .responding := (h n).2 (by rw [hwait]; rfl)
      have hlost : loseWaitingRow n s = deliverRow n w.status (countLost 1 s) := by
        simp only [loseWaitingRow, hstate, hwait]
      have hothers : (l.filter fun m => (deliverRow n w.status (countLost 1 s)).rows[m].wait.isSome) =
          l.filter fun m => s.rows[m].wait.isSome := by
        refine List.filter_congr fun m hm => ?_
        rw [deliverRow_row, if_neg (ne_of_mem_of_not_mem hm hn)]
        rfl
      rw [hlost, ih hl (waitsSound_deliverRow (s := countLost 1 s) h n _), hothers,
        answeredOn_cons_of_some (s := countLost 1 s) hn hwait,
        List.filter_cons_of_pos (by rw [hwait]; rfl), List.length_cons, Nat.add_comm, ← satAdd_satAdd]
      rfl

/-! ### With slots PARKED and rows RESPONDING -/

/-- Leaving WATCHING leaves of a row what its response is made of. -/
theorem left_row_response (s : State) (c : SessionController) (u : Fin 8) :
    (s.left c).rows[u].wait = s.rows[u].wait ∧ (s.left c).rows[u].kind = s.rows[u].kind ∧
      (s.left c).rows[u].readBuf = s.rows[u].readBuf := by
  rw [left_row]
  split <;> exact ⟨rfl, rfl, rfl⟩

theorem left_waitResponses (s : State) (c : SessionController) (l : List (Fin 8)) :
    (s.left c).waitResponses l = s.waitResponses l := by
  refine List.filterMap_congr fun n _ => ?_
  obtain ⟨hwait, hkind, hbuf⟩ := left_row_response s c n
  simp only [responseData_eq, hwait, hkind, hbuf]

theorem waitResponses_eq (s : State) (l : List (Fin 8)) :
    s.waitResponses l =
      l.filterMap fun n => s.rows[n].wait.map fun w =>
        { status := w.status, tag := n,
          data := if s.rows[n].kind = .read ∧ w.status = .okay then s.rows[n].readBuf else [] } :=
  List.filterMap_congr fun n _ => by simp only [responseData_eq]

theorem rows_toList (v : Vector Row 8) : v.toList = allTags.map fun n => v[n] := by
  rw [← List.ofFn_getElem (xs := v.toList)]
  simp [List.ofFn_succ, allTags]

/-- As many responses wait as rows are RESPONDING. -/
theorem waits_length (h : s.waitsSound) (c : SessionController) :
    (allTags.filter fun n => (s.left c).rows[n].wait.isSome).length =
      (s.rows.toList.filter fun r => decide (r.state = .responding)).length := by
  rw [rows_toList, List.filter_map, List.length_map]
  refine congrArg List.length (List.filter_congr fun n _ => ?_)
  obtain ⟨hwait, -, -⟩ := left_row_response s c n
  rw [hwait, Bool.eq_iff_iff, ← h n]
  exact decide_eq_true_iff.symm

/-- The state in which every wait has ended in FAULT. -/
def State.faultDone (s : State) : State := s.gaveUp.faultLeft.waitsLost allTags

theorem faultDone_eq (h : s.pathSound) :
    s.faultDone =
      { (s.gaveUp.left s.faultSc).answeredOn allTags with
        cq := { records := [], pendingLoss := 0#32, claim := none,
                lossCount := satAdd s.cq.lossCount
                  (s.parkedDebts + s.cq.records.length +
                    (s.rows.toList.filter fun r => decide (r.state = .responding)).length) } } := by
  have hleft : s.gaveUp.faultLeft.waitsSound := waitsSound_left (s := s.gaveUp) h s.faultSc
  obtain ⟨-, -, -, hwaits, -⟩ := h
  have hcount : (allTags.filter fun n => s.gaveUp.faultLeft.rows[n].wait.isSome).length =
      (s.rows.toList.filter fun r => decide (r.state = .responding)).length :=
    waits_length (s := s.gaveUp) hwaits s.faultSc
  rw [State.faultDone, waitsLost_eq (by decide) hleft, hcount, ← satAdd_satAdd]
  rfl

theorem faultDone_row (h : s.pathSound) (u : Fin 8) :
    s.faultDone.rows[u] =
      if s.rows[u].wait.isSome = true then Row.empty
      else if s.slotTag 0 = some u ∨ s.slotTag 1 = some u then ({ s.rows[u] with late := 0#16 } : Row).stopForwarded
      else { s.rows[u] with late := 0#16 } := by
  obtain ⟨hwait, -, -⟩ := left_row_response s.gaveUp s.faultSc u
  rw [faultDone_eq h]
  refine (answeredOn_row (s.gaveUp.left s.faultSc) allTags u).trans ?_
  rw [hwait, left_row]
  exact if_congr (and_iff_right (mem_allTags u)) rfl rfl

theorem faultDone_row_of_parked (h : s.pathSound) {u : Fin 8} (hu : s.rows[u].state = .parked) :
    s.faultDone.rows[u] =
      { s.rows[u] with
        state := .queued, late := 0#16, carry := .stopForward
        owed := s.rows[u].owed && decide (s.rows[u].kind = .read) } := by
  have hrow := faultDone_row h u
  obtain ⟨-, ⟨hparked, -⟩, -, hwaits, -⟩ := h
  rw [hrow, if_neg (by rw [← hwaits u, hu]; decide), if_pos ((hparked u).1 hu)]
  rfl

theorem faultDone_row_of_responding (h : s.pathSound) {u : Fin 8} (hu : s.rows[u].state = .responding) :
    s.faultDone.rows[u] = Row.empty := by
  have hrow := faultDone_row h u
  obtain ⟨-, -, -, hwaits, -⟩ := h
  rw [hrow, if_pos ((hwaits u).1 hu)]

theorem faultDone_row_of_other (h : s.pathSound) {u : Fin 8} (hu : s.rows[u].state ∉ [.parked, .responding]) :
    s.faultDone.rows[u] = { s.rows[u] with late := 0#16 } := by
  have hrow := faultDone_row h u
  obtain ⟨-, ⟨hparked, -⟩, -, hwaits, -⟩ := h
  rw [List.mem_cons, List.mem_singleton, not_or] at hu
  rw [hrow, if_neg (mt (hwaits u).2 hu.2), if_neg (mt (hparked u).2 hu.1)]

/-- FAULT with the port busy and no request in hand, whatever is PARKED or RESPONDING. -/
theorem ringResponse_of_fault_waits {port : Downstream} (h : s.pathSound) (ho : s.rw.outstanding = some b)
    (hw : s.rw.writer = .writing) (hs : s.sc.session ∈ [.watching, .stopping]) (hidle : s.rqp.acceptance = .idle)
    (hport : s.mpa.port = .issuing port) :
    ringResponse .error s =
      raise (some 0) .ringFault 0
        { s.gaveUp with
          sc := { s.faultSc with stopRecord := if s.sc.stopRecord = .due then .placed else s.sc.stopRecord }
          rows := s.faultDone.rows
          fq := s.fq ++ s.parkedTags
          hold := { s.hold with slots := Vector.replicate 2 none }
          rqp := { s.rqp with ready := s.rqp.ready ++ s.waitResponses allTags }
          counters := mapVec (fun c => { c with tickPending := false }) s.counters
          cq := { records := [], pendingLoss := 0#32, claim := none,
                  lossCount := satAdd s.cq.lossCount
                    (s.parkedDebts + s.cq.records.length +
                      (s.rows.toList.filter fun r => decide (r.state = .responding)).length +
                      (if s.sc.stopRecord = .due then 1 else 0)) } } := by
  have hdone := faultDone_eq h
  have hstates : ∀ u : Fin 8, s.faultDone.rows[u].state ≠ .responding := fun u =>
    waitsLost_not_responding (waitsSound_left (s := s.gaveUp) h s.faultSc) (mem_allTags u)
  have hfq : (s.gaveUp.left s.faultSc).fq = s.fq ++ s.parkedTags := slotsReleased_fq _
  have hhold : (s.gaveUp.left s.faultSc).hold = { s.hold with slots := Vector.replicate 2 none } :=
    slotsReleased_hold _
  have hready : (s.gaveUp.left s.faultSc).waitResponses allTags = s.waitResponses allTags := left_waitResponses ..
  obtain ⟨-, ⟨-, htags, -⟩, -, -, -⟩ := h
  have hended : endLosslessWaits s.gaveUp.faultLeft = s.faultDone :=
    endLosslessWaits_of_rows (s := s.gaveUp.faultLeft) rfl (congrArg Acceptance.heldTag hidle)
  rw [ringResponse_of_fault ho hw hs htags hended (by rw [hdone]; rfl) (by rw [hdone]; exact hidle) hstates
    (noGrant_of_issuing (by rw [hdone]; exact hport)), ← satAdd_satAdd, ← hfq, ← hhold, ← hready, hdone]
  rfl

/-! ### A write at the LOSSLESS gate (R53, R129) -/

theorem requestLevel_of_not_watching (l : Option (Fin 16 × Fin 4)) (h : s.sc.session ≠ .watching) :
    requestLevel l s = s := by
  cases l with
  | none => rfl
  | some x => exact levelRequest_of_not_watching h

theorem requestStop_of_not_watching (n : Option (Fin 16)) (h : s.sc.session ≠ .watching) : requestStop n s = s := by
  cases n with
  | none => rfl
  | some n => exact stopRequest_of_not_watching h

/-- Outside WATCHING only the totals, the causes and the notices are handed on. -/
theorem handOn_of_not_watching (h : s.sc.session ≠ .watching) :
    handOn tag o s =
      modifyRow tag (fun r => { r with notified := r.notified ||| o.notices })
        (raiseHits o.alerts (countHits o.early s)) := by
  have hsession : (raiseHits o.alerts (countHits o.early s)).sc.session ≠ .watching := by
    rw [raiseHits_eq]
    exact h
  rw [handOn, requestLevel_of_not_watching _ hsession]
  exact counterEvent_of_not_watching hsession

/-- A row that owes no record is forwarded outside WATCHING. -/
theorem decideRequest_forward_of_not_watching (h : s.sc.session ≠ .watching) (hv : o.verdict = .forward)
    (howed : s.rows[tag].owed = false) :
    decideRequest tag o s =
      releasePort
        { raiseHits o.alerts (countHits o.early s) with
          rows := s.rows.set tag
            { s.rows[tag] with
              state := .queued, carry := .forwarded, holdRefused := false
              notified := s.rows[tag].notified ||| o.notices }
          fq := s.fq ++ [tag] } := by
  obtain ⟨x, hx⟩ : ∃ x, x = modifyRow tag (fun r => { r with notified := r.notified ||| o.notices })
    (raiseHits o.alerts (countHits o.early s)) := ⟨_, rfl⟩
  have hhits := raiseHits_eq o.alerts (countHits o.early s)
  have hrows : x.rows = s.rows.set tag { s.rows[tag] with notified := s.rows[tag].notified ||| o.notices } := by
    rw [hx, hhits]
    rfl
  have hforward := decideForward_of_row hrows howed .forwarded false
  rw [decideRequest, handOn_of_not_watching h, ← hx, hv, carryOut, hforward, requestStop_of_not_watching]
  · rw [hx, hhits]
    rfl
  · rw [hx, hhits]
    exact h

theorem waitsLost_of_none (h : ∀ u : Fin 8, s.rows[u].state ≠ .responding) (l : List (Fin 8)) :
    s.waitsLost l = s := by
  induction l with
  | nil => rfl
  | cons u l ih => exact (congrArg (State.waitsLost · l) (loseWaitingRow_of_not_responding (h u))).trans ih

/-- The write at the LOSSLESS gate is forwarded, and the record it owes is counted as lost. -/
theorem endLosslessWaits_of_write {since : Word} (hs : s.sc.session ∉ [.watching, .stopping])
    (hrows : ∀ u : Fin 8, s.rows[u].state ≠ .responding) (hwait : s.rqp.acceptance = .waitLossless tag since o)
    (hv : o.verdict = .forward) :
    endLosslessWaits s =
      releasePort
        { raiseHits o.alerts (countHits o.early s) with
          rows := s.rows.set tag
            { s.rows[tag] with
              state := .queued, owed := false, carry := .forwarded, holdRefused := false
              notified := s.rows[tag].notified ||| o.notices }
          fq := s.fq ++ [tag]
          cq := { s.cq with lossCount := satAdd s.cq.lossCount s.rows[tag].owed.toNat } } := by
  have hmay : s.mayWait = false := by rw [State.mayWait, (Session.records_eq_false_iff _).2 hs, Bool.false_and]
  have hsession : s.sc.session ≠ .watching := fun he => hs (by rw [he]; exact List.mem_cons_self)
  have hlost : (if s.rows[tag].owed then countLost 1 s else s) = countLost s.rows[tag].owed.toNat s := by
    cases s.rows[tag].owed
    · rw [if_neg Bool.false_ne_true, Bool.toNat_false, countLost, satAdd_zero]
    · rfl
  have hended : endLosslessWaits s = decideRequest tag o (clearDebt tag (countLost s.rows[tag].owed.toNat s)) := by
    rw [endLosslessWaits, hmay, if_neg Bool.false_ne_true, ← State.waitsLost, waitsLost_of_none hrows, ← hlost]
    simp only [loseWaitingWrite, hwait]
  obtain ⟨x, hx⟩ : ∃ x, x = clearDebt tag (countLost s.rows[tag].owed.toNat s) := ⟨_, rfl⟩
  have hrow : x.rows[tag] = { s.rows[tag] with owed := false } := by
    rw [hx]
    exact (row_set ..).trans (if_pos rfl)
  have hxrows : x.rows = s.rows.set tag { s.rows[tag] with owed := false } := by rw [hx]; rfl
  have hxsc : x.sc = s.sc := by rw [hx]; rfl
  rw [hended, ← hx, decideRequest_forward_of_not_watching (by rw [hxsc]; exact hsession) hv (by rw [hrow]), hrow,
    hxrows, Vector.set_set, raiseHits_eq, raiseHits_eq (s := countHits o.early s),
    raiseHits_au_congr (s := countHits o.early s) o.alerts (by rw [hx]; rfl), hx]
  rfl

/-- The state in which the wait of the write at the LOSSLESS gate has ended in FAULT. -/
def State.faultForwarded (s : State) (tag : Fin 8) (o : MatchOutcome) : State :=
  { raiseHits o.alerts (countHits o.early s) with
    sc := s.faultSc
    rows := (mapVec (fun r => { r with late := 0#16 }) s.rows).set tag
      { s.rows[tag] with
        state := .queued, late := 0#16, owed := false, carry := .forwarded, holdRefused := false
        notified := s.rows[tag].notified ||| o.notices }
    fq := s.fq ++ [tag]
    rqp := { s.rqp with acceptance := .idle }
    counters := mapVec (fun c => { c with tickPending := false }) s.counters
    cq := { records := [], pendingLoss := 0#32, claim := none,
            lossCount := satAdd s.cq.lossCount (s.cq.records.length + s.rows[tag].owed.toNat) }
    rw := s.gaveUp.rw }

theorem faultForwarded_row_not_responding (hrows : ∀ u : Fin 8, s.rows[u].state ≠ .responding) (u : Fin 8) :
    (s.faultForwarded tag o).rows[u].state ≠ .responding := by
  have hrow := row_set (mapVec (fun r : Row => { r with late := 0#16 }) s.rows) tag u
    { s.rows[tag] with
      state := .queued, late := 0#16, owed := false, carry := .forwarded, holdRefused := false
      notified := s.rows[tag].notified ||| o.notices }
  refine fun he => absurd ((congrArg Row.state hrow).symm.trans he) ?_
  split
  · exact nofun
  · exact (congrArg Row.state (freeze_row s u)).trans_ne (hrows u)

theorem endLosslessWaits_faultLeft_of_write {since : Word} (hwait : s.rqp.acceptance = .waitLossless tag since o)
    (hv : o.verdict = .forward) (hfree : ∀ n : Fin 2, s.hold.slots[n] = none)
    (hrows : ∀ u : Fin 8, s.rows[u].state ≠ .responding) :
    endLosslessWaits s.gaveUp.faultLeft = s.faultForwarded tag o := by
  obtain ⟨x, hx⟩ : ∃ x, x = s.gaveUp.faultLeft := ⟨_, rfl⟩
  have hleft : x = _ := hx.trans (faultLeft_of_free (s := s.gaveUp) hfree)
  have hrow : ∀ u : Fin 8, x.rows[u] = { s.rows[u] with late := 0#16 } := by
    rw [hleft]
    exact freeze_row s
  have hsession : x.sc.session ∉ [.watching, .stopping] := by
    have hfault : x.sc.session = .fault := by rw [hleft]; rfl
    rw [hfault]
    decide
  have hended := endLosslessWaits_of_write hsession (fun u => by rw [hrow]; exact hrows u)
    (by rw [hleft]; exact hwait) hv
  rw [← hx, hended, hrow, raiseHits_eq, raiseHits_au_congr (s := countHits o.early s) o.alerts (by rw [hleft]; rfl),
    hleft, State.faultForwarded, raiseHits_eq (s := countHits o.early s), ← satAdd_satAdd]
  rfl

/-- FAULT with the port busy and a write at the LOSSLESS gate, which is forwarded, with its record lost. -/
theorem ringResponse_of_fault_write {port : Downstream} {since : Word} (ho : s.rw.outstanding = some b)
    (hw : s.rw.writer = .writing) (hs : s.sc.session ∈ [.watching, .stopping])
    (hwait : s.rqp.acceptance = .waitLossless tag since o) (hv : o.verdict = .forward)
    (hfree : ∀ n : Fin 2, s.hold.slots[n] = none) (hrows : ∀ u : Fin 8, s.rows[u].state ≠ .responding)
    (hport : s.mpa.port = .issuing port) :
    ringResponse .error s =
      raise (some 0) .ringFault 0
        { s.faultForwarded tag o with
          sc := { s.faultSc with stopRecord := if s.sc.stopRecord = .due then .placed else s.sc.stopRecord }
          cq := { records := [], pendingLoss := 0#32, claim := none,
                  lossCount := satAdd s.cq.lossCount
                    (s.cq.records.length + s.rows[tag].owed.toNat +
                      (if s.sc.stopRecord = .due then 1 else 0)) } } := by
  have hmpa : (s.faultForwarded tag o).mpa = s.mpa := by
    rw [State.faultForwarded, raiseHits_eq]
    rfl
  rw [ringResponse_of_fault ho hw hs (slotTags_ne_of_free hfree)
    (endLosslessWaits_faultLeft_of_write hwait hv hfree hrows) rfl rfl (faultForwarded_row_not_responding hrows)
    (noGrant_of_issuing (by rw [hmpa]; exact hport)), ← satAdd_satAdd s.cq.lossCount]
  rfl

end Sys2Proof.Machine
end

section
/-! The statement about responses to ring bursts, assembled: obligation O47. -/

namespace Sys2Proof.Machine

variable {s u : State} {status : RespStatus} {tag : Fin 8} {words : List Word}

theorem exec_of_ringResponse (h : ringResponse status s = u) :
    exec (.memoryResponse { marker := .ring, tag := tag, status := status, data := words }) s = .next u :=
  (exec_ringResponse tag status words s).trans (congrArg _ h)

end Sys2Proof.Machine

namespace Sys2Proof.Proofs.TheRingWriter

open Sys2Proof.Machine

/-- Settles O47: each response by the event it is for the Ring Writer (the next burst, publication, FAULT, the end of
an abandoned burst) and by what the end of the step then finds. -/
theorem ringResponses : Obligations.RingResponses := by
  unfold Obligations.RingResponses
  intro b p tag words s t hrest ho ht
  subst ht
  refine ⟨?next, ?lastInLoop, ?faultOfFree, ?abandonedOff, ?last, ?faultOfWaits, ?faultOfWrite, ?abandoned⟩
  case next =>
    intro next rest hw hp hb
    have hstep := ringResponse_of_next hrest ho hw hp hb
    refine ⟨fun d hport => exec_of_ringResponse (hstep.trans (arbitrate_of_issuing hport)), fun hport => ?_⟩
    have hrequest : (s.rw.answered b).request = some next := by
      simp [RingWriter.request, RingWriter.answered, hw, hp, hb]
    have hfq : s.fq = [] := fq_of_ready hrest hport
    have hgrant : arbitrate (s.withRing (s.rw.answered b) s.cq s.au) = grantRing next _ :=
      arbitrate_of_ring hport hfq hrequest
    refine exec_of_ringResponse ((hstep.trans hgrant).trans ?_)
    simp [grantRing, State.withRing, RingWriter.answered, ringRequest, hp, hb]
  case lastInLoop =>
    intro h used u hw hp hb hwrap hm hr hread hwrite hq hused hu
    have hpub : u = s.published p := by
      rw [hu, hused, ← hr.fillAt_of_loop hread hwrite hm, State.published, hwrap, hq]
      rfl
    have hempty : (s.published p).cq.records = [] := by rw [← hpub, hu]
    subst hpub
    have hstep := ringResponse_of_last ho hw hp hb
    refine ⟨fun hs => ?watching, fun hs hrecord howes => ?stopping⟩
    case watching =>
      exact exec_of_ringResponse (hstep.trans (finish_published_of_empty hrest hempty
        fun he => absurd (hs.symm.trans he) nofun))
    case stopping =>
      exact exec_of_ringResponse (hstep.trans (finish_published_of_stopping hrest hempty hs hrecord howes))
  case faultOfFree =>
    intro hw hs hidle hfree hrows
    refine exec_of_ringResponse ((ringResponse_of_fault_free hrest ho hw hs hidle hfree hrows).trans ?_)
    by_cases hdue : s.sc.stopRecord = .due
    · simp only [if_pos hdue]
      rfl
    · simp only [if_neg hdue, satAdd_zero]
      rfl
  case abandonedOff =>
    intro hw hs status
    exact exec_of_ringResponse (ringResponse_of_over_idle hrest ho hw (.inl (by rw [hs]; decide)) status)
  case last =>
    intro d used u hport hw hp hb hs hdone hr hread hwrite hused hu
    have hfill : used = s.rw.fillAt p.newWrite := by
      cases hm : s.rw.mode with
      | once => rw [hused, hm, RingWriter.fillAt_of_once hm]
      | loop => rw [hused, hm, hr.fillAt_of_loop hread hwrite hm]
    have hpub : u = s.published p := by
      rw [hu, hfill]
      rfl
    subst hpub
    have hstep := ringResponse_of_last ho hw hp hb
    refine ⟨fun hempty hleft => ?wait, fun hempty hs howes hrecord => ?stopped,
      fun h rest hq => ⟨fun next hc => ?write, fun hc => ?space⟩⟩
    case wait =>
      refine exec_of_ringResponse (hstep.trans (finish_published_of_empty hrest hempty fun hstop hrecord => ?_))
      obtain hwatch | howes | hplaced := hleft
      · exact absurd (hwatch.symm.trans hstop) nofun
      · exact howes
      · exact absurd hrecord hplaced
    case stopped =>
      exact exec_of_ringResponse (hstep.trans (finish_published_of_stopping hrest hempty hs hrecord howes))
    case write =>
      exact exec_of_ringResponse (hstep.trans
        (finish_takeHead_of_write (x := s.rw.published p) hrest hport rfl hs hdone rfl hq hc))
    case space =>
      exact exec_of_ringResponse (hstep.trans
        (finish_takeHead_of_waitSpace (x := s.rw.published p) hrest hport rfl hs hdone rfl hq hc))
  case faultOfWaits =>
    intro d hport hw hs hpath hidle
    have hstep := ringResponse_of_fault_waits hpath ho hw hs hidle hport
    have hrows : (ringResponse .error s).rows = s.faultDone.rows := by rw [hstep, raise_eq]
    refine ⟨ringResponse .error s, exec_of_ringResponse rfl, fun n => ?rows, ?state⟩
    case rows =>
      rw [hrows]
      exact ⟨faultDone_row_of_parked hpath, faultDone_row_of_responding hpath, faultDone_row_of_other hpath⟩
    case state =>
      rw [hrows, hstep, waitResponses_eq, Nat.add_comm s.parkedDebts]
      rfl
  case faultOfWrite =>
    intro d waiting since o hport hw hs hwait hv hfree hrows
    exact exec_of_ringResponse (ringResponse_of_fault_write ho hw hs hwait hv hfree hrows hport)
  case abandoned =>
    intro d status u hport hw hu
    subst hu
    have hstep := ringResponse_of_abandoning ho hw status
    refine ⟨fun hs => exec_of_ringResponse (ringResponse_of_over_idle hrest ho hw hs status),
      fun h rest hs hdone hq => ⟨fun next hc => ?write, fun hc => ?space⟩⟩
    case write =>
      exact exec_of_ringResponse (hstep.trans
        (finish_takeHead_of_write (x := s.rw.over) hrest hport rfl hs hdone rfl hq hc))
    case space =>
      exact exec_of_ringResponse (hstep.trans
        (finish_takeHead_of_waitSpace (x := s.rw.over) hrest hport rfl hs hdone rfl hq hc))

end Sys2Proof.Proofs.TheRingWriter
end
